-- ==== Sys2Proof/Word.lean ====
section
/-! DEFINITION. The word types of the block (spec 00_scope R11, R13; 30_encoding R86). -/

namespace Sys2Proof

/-- A u8: a sample, a register, a counter (R11). -/
abbrev Byte := BitVec 8

/-- One operation word: bits 15:8 the opcode, bits 7:0 the operand byte (R86). -/
abbrev Word := BitVec 16

/-- A u32: `last_clap`, the time service's counter, SERIES_TIMEOUT_MS (R10, R11). -/
abbrev Dword := BitVec 32

end Sys2Proof
end

