-- ==== Sys2Proof/Config.lean ====
section
/-! DEFINITION. The configuration parameters (spec 00_scope R10) and the free values (00_scope R14 `draw`). The derived constants and the validation are in Sys2Proof/Machine/Params.lean. -/

namespace Sys2Proof

/-- `PART`: the register layout. The spec gives the ATmega328P only (00_scope R3, R10). -/
inductive Part where
  | atmega328p
deriving DecidableEq, Repr

/-- How ADC_PRESCALER comes about: by the selection of 40_sampler R125, or as the free parameter
that the same rule allows a model to take. -/
inductive Prescaler where
  /-- `F_CPU / 125000` (R125). -/
  | selected
  /-- A given divider, subject to `E_RATE` and `E_CLOCK`. -/
  | given (division : Nat)
deriving DecidableEq, Repr

/-- The error codes of 40_sampler R124, in the order of its table (60_exceptions R238). -/
inductive ConfigError where
  | E_THRESH_ORDER
  | E_DELTA_RANGE
  | E_RATE
  | E_DEBOUNCE_PACK
  | E_TIMEOUT_RANGE
  | E_CLOCK
  | E_REF
  | E_CHANNEL
deriving DecidableEq, Repr

/-- The configuration parameters of 00_scope R10. None has a default in the spec but ATOMIC_FINISH. -/
structure Config where
  part : Part
  /-- MAX_T, the upper threshold and idle ceiling of `running_max`. -/
  maxT : Byte
  /-- MIN_T, the lower threshold. -/
  minT : Byte
  /-- JITTER, added to the required swing. -/
  jitter : Byte
  /-- PEAK_TIMEOUT_US, microseconds. -/
  peakTimeoutUs : Nat
  /-- DEBOUNCE_MS, milliseconds. -/
  debounceMs : Nat
  /-- SERIES_TIMEOUT_MS, milliseconds. -/
  seriesTimeoutMs : Dword
  /-- F_CPU, hertz. -/
  fCpu : Nat
  /-- ADC_PRESCALER. -/
  prescaler : Prescaler
  /-- ADC_REF, the REFS code. -/
  adcRef : BitVec 2
  /-- ADC_CHANNEL, the MUX code. -/
  adcChannel : BitVec 4
  /-- ATOMIC_FINISH, default false. -/
  atomicFinish : Bool := false
deriving DecidableEq, Repr

/-- The configuration of `State.reset`: EX2 of 95_test_vectors.md. The spec gives the parameters no
values. DESIGN CHOICE (log 2), unsafe: no statement rests on it but those that name `State.reset`. -/
def Config.atReset : Config where
  part := .atmega328p
  maxT := 160
  minT := 96
  jitter := 16
  peakTimeoutUs := 312
  debounceMs := 1
  seriesTimeoutMs := 500
  fCpu := 16000000
  prescaler := .selected
  adcRef := 0b01
  adcChannel := 0b0000
  atomicFinish := false

/-- The draw of `env_ms` at reset (10_state R39): a free value. DESIGN CHOICE of form (log 3), safe. -/
opaque Config.envMsAtReset : Dword

/-- The draws of `ENABLE` and `DISABLE` (40_sampler R113, R114): whether a pending ADIF is cleared,
the n-th draw of a run. A free value (log 4), safe. -/
opaque Config.clearDraw : Nat → Bool

/-- The draws of `ADCL[7:6]` at each conversion (40_sampler R118), the n-th draw of a run.
A free value (log 4), safe. -/
opaque Config.adclDraw : Nat → BitVec 2

end Sys2Proof
end

