-- ==== Sys2Proof/Machine/Params.lean ====
section
/-! DEFINITION. The field codes of the ADC registers (30_encoding R82–R85), the derived constants (40_sampler R123, R125) and the build-time validation (40_sampler R124). -/

namespace Sys2Proof

/-! ## Register field codes -/

/-- The reference voltage sources (30_encoding R82). -/
inductive Reference where
  /-- AREF pin, internal reference off. -/
  | arefPin
  /-- AVcc, with external capacitor at AREF. -/
  | avcc
  /-- Internal 1.1 V reference, with external capacitor at AREF. -/
  | internal1v1
deriving DecidableEq, Repr

/-- The REFS codes; `none` is the reserved code 0b10 (30_encoding R82). -/
def referenceOf (code : BitVec 2) : Option Reference :=
  if code = 0b00 then some .arefPin
  else if code = 0b01 then some .avcc
  else if code = 0b10 then none
  else some .internal1v1

/-- The input channels (30_encoding R83). -/
inductive Channel where
  /-- ADC0–ADC7 (ADC6 and ADC7 exist only in the 32-pin packages). -/
  | pin (n : Fin 8)
  /-- ADC8, the internal temperature sensor. -/
  | temperature
  /-- The 1.1 V band-gap reference. -/
  | bandGap
  /-- 0 V (GND). -/
  | ground
deriving DecidableEq, Repr

/-- The MUX codes; `none` is a reserved code, 0b1001 to 0b1101 (30_encoding R83). -/
def channelOf (code : BitVec 4) : Option Channel :=
  if h : code.toNat < 8 then some (.pin ⟨code.toNat, h⟩)
  else if code = 0b1000 then some .temperature
  else if code = 0b1110 then some .bandGap
  else if code = 0b1111 then some .ground
  else none

/-- The auto-trigger sources with ADATE = 1 (30_encoding R85). -/
inductive Trigger where
  | freeRunning
  | analogComparator
  | externalInterrupt0
  | timer0CompareA
  | timer0Overflow
  | timer1CompareB
  | timer1Overflow
  | timer1Capture
deriving DecidableEq, Repr

/-- The ADTS codes (30_encoding R85). -/
def triggerOf (code : BitVec 3) : Trigger :=
  if code = 0b000 then .freeRunning
  else if code = 0b001 then .analogComparator
  else if code = 0b010 then .externalInterrupt0
  else if code = 0b011 then .timer0CompareA
  else if code = 0b100 then .timer0Overflow
  else if code = 0b101 then .timer1CompareB
  else if code = 0b110 then .timer1Overflow
  else .timer1Capture

/-- The ADPS codes: the division of `F_CPU` (30_encoding R84). -/
def divisionOf (code : BitVec 3) : Nat :=
  if code = 0b000 then 2 else 2 ^ code.toNat

/-- The dividers that ADC_PRESCALER may be (00_scope R10). -/
def divisions : List Nat := [2, 4, 8, 16, 32, 64, 128]

/-- The ADPS code the driver writes for a divider; 2 is written as 0b001 (30_encoding R84). A number
that is no divider has no code: `E_CLOCK` refuses it before any run, and 0b000 stands here unread. -/
def adpsCodeOf (division : Nat) : BitVec 3 :=
  if division = 2 then 0b001
  else if division = 4 then 0b010
  else if division = 8 then 0b011
  else if division = 16 then 0b100
  else if division = 32 then 0b101
  else if division = 64 then 0b110
  else if division = 128 then 0b111
  else 0b000

/-! ## Derived constants (40_sampler R123, in exact natural-number arithmetic) -/

/-- ADC_PRESCALER: `F_CPU / 125000` under the selection of R125, or the given divider. Where the quotient is
no natural number R125 names no divider and `E_CLOCK` fails, but the rows of R124 before it still need one:
they take the quotient rounded down. DESIGN CHOICE (log 9). -/
def Config.adcPrescaler (c : Config) : Nat :=
  match c.prescaler with
  | .selected => c.fCpu / 125000
  | .given division => division

/-- PS_CODE. -/
def Config.psCode (c : Config) : BitVec 3 :=
  adpsCodeOf c.adcPrescaler

/-- C_SAMPLE: CPU cycles per conversion, 13 ADC clock cycles. T_SAMPLE is `C_SAMPLE / F_CPU` seconds. -/
def Config.cSample (c : Config) : Nat :=
  13 * c.adcPrescaler

/-- `samples(t_us)`, rounded down (D11). -/
def Config.samples (c : Config) (us : Nat) : Nat :=
  us * c.fCpu / (c.cSample * 1000000)

/-- PEAK_TIMEOUT, in samples. -/
def Config.peakTimeout (c : Config) : Nat :=
  c.samples c.peakTimeoutUs

/-- DEB_SAMPLES, the debounce duration in samples. -/
def Config.debSamples (c : Config) : Nat :=
  c.samples (c.debounceMs * 1000)

/-- DEB_HI. -/
def Config.debHi (c : Config) : Nat :=
  c.debSamples / 256

/-- DEB_LO. -/
def Config.debLo (c : Config) : Nat :=
  c.debSamples % 256

/-- PEAK_DELTA. -/
def Config.peakDelta (c : Config) : Nat :=
  (c.maxT.toNat - c.minT.toNat) + c.jitter.toNat

/-- DEB_BASE: `running_max` on debounce entry. -/
def Config.debBase (c : Config) : Nat :=
  c.maxT.toNat - (c.debHi + 1)

/-- DEB_CD: `countdown` on debounce entry. -/
def Config.debCd (c : Config) : Nat :=
  (c.debLo + 1) % 256

/-! The u8 storage of the constants that a tracker register takes. For a valid
configuration none of them wraps (R124). -/

/-- PEAK_TIMEOUT as a u8. -/
def Config.peakTimeoutByte (c : Config) : Byte :=
  BitVec.ofNat 8 c.peakTimeout

/-- DEB_BASE as a u8. -/
def Config.debBaseByte (c : Config) : Byte :=
  BitVec.ofNat 8 c.debBase

/-- DEB_CD as a u8. -/
def Config.debCdByte (c : Config) : Byte :=
  BitVec.ofNat 8 c.debCd

/-! ## Validation (40_sampler R124) -/

/-- `E_CLOCK`'s check. Under the selection the quotient is exact: R125 supports 250 kHz, 500 kHz, 1, 2,
4, 8 and 16 MHz and no other clock. DEDUCED (log 9). -/
def Config.clockOk (c : Config) : Bool :=
  divisions.contains c.adcPrescaler &&
    (c.prescaler != .selected || 125000 * c.adcPrescaler == c.fCpu)

/-- The check of one row of R124's table. Where C_SAMPLE is 0 the sample counts do not exist, and the two
rows that read them do not fail, so that such a clock is reported as `E_CLOCK`. DESIGN CHOICE (log 9). -/
def Config.passes (c : Config) : ConfigError → Bool
  | .E_THRESH_ORDER => decide (c.minT.toNat < c.maxT.toNat)
  | .E_DELTA_RANGE => decide (c.peakDelta ≤ 255)
  | .E_RATE => decide (3000 * c.cSample < c.fCpu)
  | .E_DEBOUNCE_PACK => c.cSample == 0 || decide (c.debHi < c.maxT.toNat)
  | .E_TIMEOUT_RANGE => c.cSample == 0 || (decide (1 ≤ c.peakTimeout) && decide (c.peakTimeout ≤ 255))
  | .E_CLOCK => c.clockOk
  | .E_REF => (referenceOf c.adcRef).isSome
  | .E_CHANNEL => (channelOf c.adcChannel).isSome

/-- The rows of R124's table in their order. -/
def configChecks : List ConfigError :=
  [.E_THRESH_ORDER, .E_DELTA_RANGE, .E_RATE, .E_DEBOUNCE_PACK, .E_TIMEOUT_RANGE, .E_CLOCK, .E_REF, .E_CHANNEL]

/-- The code of the first failing row, `none` for a valid configuration (40_sampler R124). -/
def Config.firstError (c : Config) : Option ConfigError :=
  configChecks.find? fun e => !c.passes e

end Sys2Proof
end

