-- ==== Sys2Proof/Syntax.lean ====
section
/-! DEFINITION. The operations of the block, one constructor per row of spec/opcode_table.json (30_encoding R88). -/

namespace Sys2Proof

/-- The ten operations (00_scope R4, 30_encoding R88). The operand of format V is an unsigned byte (R87). -/
inductive Instr where
  /-- `INIT`: `init()` (40_sampler R110–R112). -/
  | init
  /-- `ENABLE`: `enable()` (40_sampler R113). -/
  | enable
  /-- `DISABLE`: `disable()` (40_sampler R114). -/
  | disable
  /-- `POLL`: start `poll()` and run its first micro-step (42_reducer R191). -/
  | poll
  /-- `SEI`: set the global interrupt enable (60_exceptions R240). -/
  | sei
  /-- `CLI`: clear the global interrupt enable (60_exceptions R241). -/
  | cli
  /-- `HSTEP`: the next micro-step of the `poll()` in progress (42_reducer R190). -/
  | hstep
  /-- `CONVERT v`: a conversion completes with the 8-bit result `v` (40_sampler R118). -/
  | convert (v : Byte)
  /-- `ISR`: the sample-complete interrupt is serviced (60_exceptions R232). -/
  | isr
  /-- `ADVANCE k`: the millisecond clock advances by `k` (40_sampler R122). -/
  | advance (k : Byte)
deriving DecidableEq, Repr

/-- The pseudo-operations: names for lists of words, without an opcode of their own (30_encoding R95). -/
inductive Pseudo where
  /-- `SAMPLE v`: one conversion serviced at once. -/
  | sample (v : Byte)
  /-- `SAMPLES v, n` (1 ≤ n): n equal samples. -/
  | samples (v : Byte) (n : Nat)
  /-- `POLLX`: one whole `poll()` with no other agent between its micro-steps. -/
  | pollx
  /-- `WAIT k`: the clock advances by any k. -/
  | wait (k : Nat)
  /-- `BOOT`: the boot order (70_reset R263). -/
  | boot
deriving DecidableEq, Repr

end Sys2Proof
end

