-- ==== Sys2Proof/WellFormed.lean ====
section
/-! DEFINITION. What a well-formed operation and a well-formed (valid) configuration are. -/

namespace Sys2Proof

/-- The well-formed operations. Each operand is a u8 by its type (30_encoding R86, R87), so every term of
`Instr` is well-formed: no ill-formed operation can be written down. -/
def Instr.wellFormed : Instr → Bool
  | .init => true
  | .enable => true
  | .disable => true
  | .poll => true
  | .sei => true
  | .cli => true
  | .hstep => true
  | .convert _ => true
  | .isr => true
  | .advance _ => true

/-- The well-formed pseudo-operations: `SAMPLES v, n` needs `1 ≤ n` (30_encoding R95). -/
def Pseudo.wellFormed : Pseudo → Bool
  | .sample _ => true
  | .samples _ n => decide (1 ≤ n)
  | .pollx => true
  | .wait _ => true
  | .boot => true

/-- The premise `ValidConfig` (40_sampler R124, 70_reset R264, R265): every check passes. -/
def Config.wellFormed (c : Config) : Bool :=
  configChecks.all c.passes

end Sys2Proof
end

