-- ==== Sys2Proof/Decode.lean ====
section
/-! DEFINITION. The decoder and the encoder of operation words (spec 30_encoding R86–R89, R97–R99). -/

namespace Sys2Proof

/-- A row of 30_encoding R89: a word selects it when `word & mask = pattern`. -/
structure OpcodeRow where
  pattern : Word
  mask : Word
  build : Byte → Instr

/-- The ten rows of 30_encoding R89. A format-N row builds its operation whatever the operand byte,
which its mask makes 0. -/
def opcodeRows : List OpcodeRow :=
  [ ⟨0x0100, 0xFFFF, fun _ => .init⟩,
    ⟨0x0200, 0xFFFF, fun _ => .enable⟩,
    ⟨0x0300, 0xFFFF, fun _ => .disable⟩,
    ⟨0x0400, 0xFFFF, fun _ => .poll⟩,
    ⟨0x0500, 0xFFFF, fun _ => .sei⟩,
    ⟨0x0600, 0xFFFF, fun _ => .cli⟩,
    ⟨0x0700, 0xFFFF, fun _ => .hstep⟩,
    ⟨0x1000, 0xFF00, fun v => .convert v⟩,
    ⟨0x1100, 0xFFFF, fun _ => .isr⟩,
    ⟨0x2000, 0xFF00, fun k => .advance k⟩ ]

/-- The opcode `word[15:8]` (30_encoding R86). -/
def opcodeOf (w : Word) : Byte :=
  w.extractLsb' 8 8

/-- The operand byte `word[7:0]` (30_encoding R86). -/
def operandOf (w : Word) : Byte :=
  w.extractLsb' 0 8

/-- Why a word is reserved (30_encoding R98, R99). -/
inductive Reserved where
  /-- A listed opcode of format N with a nonzero operand byte (R99 item 2). -/
  | nonzeroOperand
  /-- An opcode of the space 0x80–0xFF, kept for a model's own extensions (R98). -/
  | extensionSpace
  /-- Any other opcode that is not in the map (R99 item 1). -/
  | unknownOpcode
deriving DecidableEq, Repr

/-- The name of the verdict for a word that selects no row (30_encoding R98, R99). -/
def reservedReason (w : Word) : Reserved :=
  if opcodeRows.any fun row => row.pattern == w &&& 0xFF00 then .nonzeroOperand
  else if (0x80 : Byte) ≤ opcodeOf w then .extensionSpace
  else .unknownOpcode

/-- The decoder, total on 16-bit words (30_encoding R89, R97): the operation of the row the word selects,
or the verdict Reserved with its reason. -/
def decode (w : Word) : Except Reserved Instr :=
  match opcodeRows.find? fun row => w &&& row.mask == row.pattern with
  | some row => .ok (row.build (operandOf w))
  | none => .error (reservedReason w)

/-- `{opcode, operand}` (30_encoding R86). -/
def wordOf (opcode operand : Byte) : Word :=
  opcode ++ operand

/-- The word of an operation (30_encoding R88, R89). -/
def encode : Instr → Word
  | .init => wordOf 0x01 0
  | .enable => wordOf 0x02 0
  | .disable => wordOf 0x03 0
  | .poll => wordOf 0x04 0
  | .sei => wordOf 0x05 0
  | .cli => wordOf 0x06 0
  | .hstep => wordOf 0x07 0
  | .convert v => wordOf 0x10 v
  | .isr => wordOf 0x11 0
  | .advance k => wordOf 0x20 k

/-- The operation word whose bits are the low `nbits` bits of `w`, the bits above them 0. Every operation
is one 16-bit word (30_encoding R86, R97). -/
def tableWord (nbits w : Nat) : Word :=
  BitVec.ofNat 16 (w % 2 ^ nbits)

/-- What the decoder reads from an instruction of `nbits` bits `w`. -/
def decodeTableWord (nbits w : Nat) : Option Instr :=
  match decode (tableWord nbits w) with
  | .ok i => some i
  | .error _ => none

end Sys2Proof
end

