-- ==== Sys2Proof/Machine/State.lean ====
section
/-! DEFINITION. The state of the machine (spec 10_state R20–R43), its faults and refusals (60_exceptions R236, R237) and reset (10_state R42, 70_reset R260). -/

namespace Sys2Proof.Machine

/-- The faults (60_exceptions R236). The chip would not stop: both are host misuse that the spec itself
has the model fault (D23), so stopping is the spec's choice and safe. -/
inductive Fault where
  /-- Raised by `ENABLE` before any `INIT` (40_sampler R113). Safe. -/
  | enableBeforeInit
  /-- Raised by `INIT` while ADIE = 1 (40_sampler R110). Safe. -/
  | initWhileEnabled
deriving DecidableEq, Repr

/-- The refusals. The first three after `notModelled` are the spec's (60_exceptions R237); the others are
the model's own. All are safe: the run stops. -/
inductive Refusal where
  /-- Raised by an arm of `exec` whose operation has no meaning yet; no arm raises it. Safe. -/
  | notModelled (mnemonic : String)
  /-- `ReservedEncoding`: raised by the step at a reserved operation word (30_encoding R99). Safe. -/
  | reservedEncoding
  /-- `NotEnabled`: raised by an operation whose agent's enabling condition fails (30_encoding R90). Safe. -/
  | notEnabled
  /-- `InvalidConfiguration(code)`: raised before reset by `launch`, and by the step of a state that no
  launch gives (40_sampler R124, log 8). Safe. -/
  | invalidConfiguration (code : ConfigError)
  /-- Raised by the step of a run that is marked refused: it has no further step (60_exceptions R237, log 7). Safe. -/
  | runRefused
  /-- Raised by the step when the schedule holds no further word: the run has ended (30_encoding R96, log 1). Safe. -/
  | endOfSchedule
  /-- Raised by a host write of `ADCH` or `ADCL` (10_state R24, 30_encoding R99 item 3). Safe. -/
  | readOnlyRegister
  /-- Raised by an addressed access whose address and size match no named cell (20_memory R67). Safe. -/
  | noSuchCell
deriving DecidableEq, Repr

/-- What `poll()` returns (30_encoding R91). -/
inductive Event where
  | noEvent
  | seriesInProgress (n : Byte)
  | seriesFinished (n : Byte)
  | overflow
deriving DecidableEq, Repr

/-- The host phase: the micro-step of `poll()` that comes next (10_state R35, 42_reducer R190). -/
inductive HostPhase where
  | ready
  | pRead1
  | pRead2
  | pInprog
  | pCsEnter
  | pCsRead
  | pCsExit
  | pNow
  | pCmp
  | pSnap
  | pRmwRead
  | pRmwWrite
  | pFinDone
deriving DecidableEq, Repr

/-- The state of the model (10_state R20). -/
structure State where
  /-- The configuration parameters (00_scope R10); no operation writes them (40_sampler R128, log 2). -/
  cfg : Config
  /-- ADMUX (10_state R21). -/
  admux : Byte
  /-- ADCSRA but for bit 6, which is kept 0 here: a read of the register gives ADSC as `convRunning`
  (10_state R22, R26, log 6). -/
  adcsra : Byte
  /-- ADCSRB (10_state R23). -/
  adcsrb : Byte
  /-- ADCH (10_state R24). -/
  adch : Byte
  /-- ADCL (10_state R24). -/
  adcl : Byte
  /-- `conv_running` (10_state R27). -/
  convRunning : Bool
  /-- `running_max` (10_state R29). -/
  runningMax : Byte
  /-- `countdown` (10_state R30). -/
  countdown : Byte
  /-- `clap_count` (10_state R32). -/
  clapCount : Byte
  /-- `last_clap` (10_state R33). -/
  lastClap : Dword
  /-- `processed_claps` (10_state R34). -/
  processedClaps : Byte
  /-- `hp` (10_state R35). -/
  hp : HostPhase
  /-- The poll temporary `c1` (10_state R36). -/
  tmpC1 : Byte
  /-- The poll temporary `c2` (10_state R36). -/
  tmpC2 : Byte
  /-- The poll temporary `t` (10_state R36). -/
  tmpT : Dword
  /-- The poll temporary `now` (10_state R36). -/
  tmpNow : Dword
  /-- The poll temporary `s` (10_state R36). -/
  tmpS : Byte
  /-- The poll temporary `r` (10_state R36). -/
  tmpR : Byte
  /-- The poll temporary `g` (10_state R36). -/
  tmpG : Bool
  /-- `gie`, the global interrupt enable (10_state R37). -/
  gie : Bool
  /-- The ghost `initialized` (10_state R38). -/
  initialized : Bool
  /-- `env_ms` (10_state R39). -/
  envMs : Dword
  /-- The fault mark (10_state R40). -/
  fault : Option Fault
  /-- The refusal mark (10_state R40). -/
  refused : Bool
  /-- The output trace (10_state R43). -/
  events : List Event
  /-- The MODEL's own: the operation words still to be performed (30_encoding R96, log 1). -/
  schedule : List Word
  /-- The MODEL's own: how many draws the run has made (00_scope R14, log 4). -/
  draws : Nat
deriving DecidableEq, Repr

/-- The outcome of an operation. -/
abbrev Result := Host.Outcome State Fault Refusal

/-- The reset event (10_state R42, 70_reset R260) under the configuration `c`, with the draw `ms` of
`env_ms`. The poll temporaries have no value there and no rule reads them: zero stands in for it,
DESIGN CHOICE (log 5). -/
def State.resetWith (c : Config) (ms : Dword) : State where
  cfg := c
  admux := 0
  adcsra := 0
  adcsrb := 0
  adch := 0
  adcl := 0
  convRunning := false
  runningMax := c.maxT
  countdown := 0
  clapCount := 0
  lastClap := 0
  processedClaps := 0
  hp := .ready
  tmpC1 := 0
  tmpC2 := 0
  tmpT := 0
  tmpNow := 0
  tmpS := 0
  tmpR := 0
  tmpG := false
  gie := false
  initialized := false
  envMs := ms
  fault := none
  refused := false
  events := []
  schedule := []
  draws := 0

/-- The machine right after reset: `resetWith` at the model's configuration (log 2) and the free draw of
`env_ms` (log 3). -/
def State.reset : State :=
  .resetWith .atReset Config.envMsAtReset

end Sys2Proof.Machine
end

