-- ==== Sys2Proof/Machine/Flags.lean ====
section
/-! DEFINITION. The fields of the ADC registers: their bits, the one status flag ADIF (10_state R25), and the register bytes as software reads them (10_state R21–R26, 30_encoding R80, R81). -/

namespace Sys2Proof.Machine

/-- `v` with bit `k` set or cleared. -/
def setBit (v : Byte) (k : Nat) (b : Bool) : Byte :=
  if b then v ||| BitVec.twoPow 8 k else v &&& ~~~(BitVec.twoPow 8 k)

/-! ## ADCSRA (10_state R22) -/

/-- ADEN, bit 7: the converter enable. -/
def State.aden (s : State) : Bool := s.adcsra[7]

/-- ADSC, bit 6: a read returns `conv_running` (10_state R26). -/
def State.adsc (s : State) : Bool := s.convRunning

/-- ADATE, bit 5: the auto-trigger enable. -/
def State.adate (s : State) : Bool := s.adcsra[5]

/-- ADIF, bit 4: the conversion-complete flag, the block's only status flag (10_state R25, R41). -/
def State.adif (s : State) : Bool := s.adcsra[4]

/-- ADIE, bit 3: the conversion-complete interrupt enable. -/
def State.adie (s : State) : Bool := s.adcsra[3]

/-- ADPS, bits 2:0: the prescaler select. -/
def State.adps (s : State) : BitVec 3 := s.adcsra.extractLsb' 0 3

/-- The byte that a read of ADCSRA returns: `{ADEN, ADSC, ADATE, ADIF, ADIE, ADPS}` (30_encoding R80). -/
def State.readAdcsra (s : State) : Byte := setBit s.adcsra 6 s.adsc

/-- ADIF set or cleared by the hardware, the rest of ADCSRA as it was. -/
def setAdif (b : Bool) (s : State) : State := { s with adcsra := setBit s.adcsra 4 b }

/-- ADIE set or cleared, the rest of ADCSRA as it was. -/
def setAdie (b : Bool) (s : State) : State := { s with adcsra := setBit s.adcsra 3 b }

/-! ## ADMUX (10_state R21) and ADCSRB (10_state R23) -/

/-- REFS, ADMUX bits 7:6. -/
def State.refs (s : State) : BitVec 2 := s.admux.extractLsb' 6 2

/-- ADLAR, ADMUX bit 5. -/
def State.adlar (s : State) : Bool := s.admux[5]

/-- MUX, ADMUX bits 3:0. -/
def State.mux (s : State) : BitVec 4 := s.admux.extractLsb' 0 4

/-- ACME, ADCSRB bit 6. -/
def State.acme (s : State) : Bool := s.adcsrb[6]

/-- ADTS, ADCSRB bits 2:0. -/
def State.adts (s : State) : BitVec 3 := s.adcsrb.extractLsb' 0 3

/-- Free-running trigger mode: ADATE = 1 and ADTS = 0b000 (10_state R22, 30_encoding R85). -/
def State.freeRunning (s : State) : Bool := s.adate && triggerOf s.adts == .freeRunning

/-! ## The bytes the driver packs (30_encoding R80) -/

/-- `{REFS, ADLAR, 0, MUX}`. -/
def packAdmux (refs : BitVec 2) (adlar : Bool) (mux : BitVec 4) : Byte :=
  refs ++ BitVec.ofBool adlar ++ 0#1 ++ mux

/-- `{ADEN, ADSC, ADATE, ADIF, ADIE, ADPS}`. -/
def packAdcsra (aden adsc adate adif adie : Bool) (adps : BitVec 3) : Byte :=
  BitVec.ofBool aden ++ BitVec.ofBool adsc ++ BitVec.ofBool adate ++ BitVec.ofBool adif ++
    BitVec.ofBool adie ++ adps

/-- `{0, ACME, 0b000, ADTS}`. -/
def packAdcsrb (acme : Bool) (adts : BitVec 3) : Byte :=
  0#1 ++ BitVec.ofBool acme ++ 0#3 ++ adts

end Sys2Proof.Machine
end

