-- ==== Sys2Proof/Machine/Ops.lean ====
section
/-! DEFINITION. The shared operations: the named cells and their accesses (20_memory R60–R68), the enabling conditions (30_encoding R90), the interrupt's entry and return (60_exceptions R231, R232), the critical section (20_memory R70), the clock, the output trace, the draws and the marks (60_exceptions R236, R237). -/

namespace Sys2Proof.Machine

/-! ## Named cells -/

/-- The one-byte cells: the register space, then the shared cells, then the host-local one (20_memory R60). -/
inductive ByteCell where
  | adcl
  | adch
  | adcsra
  | adcsrb
  | admux
  | clapCount
  | runningMax
  | countdown
  | processedClaps
deriving DecidableEq, Repr

/-- The named cells: every one is a byte but `last_clap` (20_memory R64). -/
inductive Cell where
  | byte (c : ByteCell)
  | lastClap
deriving DecidableEq, Repr

/-- The size of a cell in bytes (20_memory R64). -/
def cellSize : Cell → Nat
  | .byte _ => 1
  | .lastClap => 4

/-- `MemRead(cell, 1)`; a read has no side effect (20_memory R64, R68). -/
def memRead1 (c : ByteCell) (s : State) : Byte :=
  match c with
  | .adcl => s.adcl
  | .adch => s.adch
  | .adcsra => s.readAdcsra
  | .adcsrb => s.adcsrb
  | .admux => s.admux
  | .clapCount => s.clapCount
  | .runningMax => s.runningMax
  | .countdown => s.countdown
  | .processedClaps => s.processedClaps

/-- `MemRead(last_clap, 4)` (20_memory R64, R66). -/
def memRead4 (s : State) : Dword := s.lastClap

/-- The bytes of a cell as memory holds them, the lowest address first: little-endian (20_memory R65). -/
def cellBytes (c : Cell) (s : State) : List Byte :=
  match c with
  | .byte b => [memRead1 b s]
  | .lastClap =>
    [(memRead4 s).extractLsb' 0 8, (memRead4 s).extractLsb' 8 8,
     (memRead4 s).extractLsb' 16 8, (memRead4 s).extractLsb' 24 8]

/-- A software write of ADCSRA (10_state R22, R25–R27): a 1 in bit 4 clears ADIF and a 0 leaves it; a 1 in
bit 6 with ADEN = 1 starts a conversion and a 0 has no effect; ADEN = 0 stops the converter. -/
def writeAdcsra (v : Byte) (s : State) : State :=
  { s with
    adcsra := setBit (setBit v 6 false) 4 (s.adif && !v[4])
    convRunning := v[7] && (s.convRunning || v[6]) }

/-- `MemWrite(cell, 1, v)` (20_memory R64): the field semantics of 10_state R21–R27 for a register, whose
reserved bits ignore the write; a data register is read-only and keeps its value. -/
def memWrite1 (c : ByteCell) (v : Byte) (s : State) : State :=
  match c with
  | .adcl => s
  | .adch => s
  | .adcsra => writeAdcsra v s
  | .adcsrb => { s with adcsrb := v &&& 0x47 }
  | .admux => { s with admux := v &&& 0xEF }
  | .clapCount => { s with clapCount := v }
  | .runningMax => { s with runningMax := v }
  | .countdown => { s with countdown := v }
  | .processedClaps => { s with processedClaps := v }

/-- `MemWrite(last_clap, 4, v)`. -/
def memWrite4 (v : Dword) (s : State) : State := { s with lastClap := v }

/-- The register space by data-space address (20_memory R61); no software cell has an address (R62). -/
def registerAt (address : Nat) : Option ByteCell :=
  if address = 0x78 then some .adcl
  else if address = 0x79 then some .adch
  else if address = 0x7A then some .adcsra
  else if address = 0x7B then some .adcsrb
  else if address = 0x7C then some .admux
  else none

/-- The cell that an access of `size` bytes at `address` names, if any (20_memory R67). -/
def cellAt (address size : Nat) : Option ByteCell :=
  if size = 1 then registerAt address else none

/-- A host read by address; one that matches no named cell is refused (20_memory R67). -/
def hostReadAt (address size : Nat) (s : State) : Except Refusal Byte :=
  match cellAt address size with
  | some c => .ok (memRead1 c s)
  | none => .error .noSuchCell

/-- A host write by address, by the effects of 10_state R21–R27 (R28); a data register refuses it
(10_state R24), and so does an access that matches no named cell (20_memory R67). No operation word makes
one (log 14). -/
def hostWriteAt (address size : Nat) (v : Byte) (s : State) : Result :=
  match cellAt address size with
  | some .adcl => .refused .readOnlyRegister
  | some .adch => .refused .readOnlyRegister
  | some c => .next (memWrite1 c v s)
  | none => .refused .noSuchCell

/-! ## Enabling conditions (30_encoding R90) -/

/-- `hp = Ready`: the host may issue INIT, ENABLE, DISABLE, POLL, SEI or CLI. -/
def hostReady (s : State) : Bool := s.hp == .ready

/-- `CONVERT` is enabled (40_sampler R117). -/
def converterOn (s : State) : Bool := s.aden && s.convRunning

/-- `ISR` is enabled: pending, enabled and not masked (60_exceptions R231). -/
def interruptTaken (s : State) : Bool := s.adif && s.adie && s.gie

/-- An operation whose enabling condition fails has no step: the schedule is refused there (30_encoding R90). -/
def whenEnabled (enabled : Bool) (outcome : Result) : Result :=
  if enabled then outcome else .refused .notEnabled

/-! ## The interrupt (60_exceptions R232) -/

/-- Taking the interrupt: the hardware clears ADIF and masks all interrupts. The pushed return address and
the saved registers are CPU state outside the model (R232, 10_state R41). -/
def interruptEnter (s : State) : State := { setAdif false s with gie := false }

/-- Returning from it (RETI): interrupts are unmasked. -/
def interruptReturn (s : State) : State := { s with gie := true }

/-! ## The critical section (20_memory R70, 42_reducer R197, R199) -/

/-- Save `gie` in `g` and mask. -/
def criticalEnter (s : State) : State := { s with tmpG := s.gie, gie := false }

/-- Restore the saved `gie`. -/
def criticalExit (s : State) : State := { s with gie := s.tmpG }

/-! ## Clock, output, draws -/

/-- `now_ms()` (40_sampler R122). -/
def nowMs (s : State) : Dword := s.envMs

/-- `emit e` (42_reducer, 10_state R43): append the event and return the host to Ready. -/
def emit (e : Event) (s : State) : State := { s with events := s.events ++ [e], hp := .ready }

/-- One draw made (00_scope R14): the next draw reads the next free value. -/
def countDraw (s : State) : State := { s with draws := s.draws + 1 }

/-! ## Marks (10_state R40) -/

/-- Why a state has no step whatever its next word: a fault or refusal mark (60_exceptions R236, R237), or a
configuration that has no run (40_sampler R124, log 8). -/
def blocked (s : State) : Option Result :=
  match s.fault with
  | some reason => some (.fault reason)
  | none =>
    if s.refused then some (.refused .runRefused)
    else s.cfg.firstError.map fun e => .refused (.invalidConfiguration e)

/-- The state that a step leaves behind: `raise Fault` and `refuse` set their mark on the state they stop
(60_exceptions R236, R237); the end of the schedule sets none (log 7). -/
def recordOutcome (s : State) (outcome : Result) : State :=
  match outcome with
  | .next s' => s'
  | .fault reason => { s with fault := some reason }
  | .refused .endOfSchedule => s
  | .refused _ => { s with refused := true }

end Sys2Proof.Machine
end

