-- ==== Sys2Proof/Machine/Tracker.lean ====
section
/-! DEFINITION. The peak tracker and the clap accumulator (spec 41_tracker): the step the interrupt's service routine runs on a sample. -/

namespace Sys2Proof.Machine

/-- The tracker's modes (R150). -/
inductive TrackerMode where
  | debounce
  | idle
  | tracking
deriving DecidableEq, Repr

/-- The mode, read off the state before a step (R150). -/
def trackerMode (s : State) : TrackerMode :=
  if s.runningMax < s.cfg.maxT then .debounce
  else if s.countdown = 0 then .idle
  else .tracking

/-- DEBOUNCE (R159): the recovery staircase; the countdown wraps through 0 to 255. -/
def debounceStep (s : State) : State :=
  { s with
    countdown := s.countdown - 1
    runningMax := if s.countdown - 1 = 0 then s.runningMax + 1 else s.runningMax }

/-- RISE from idle (R151) and REFRESH while tracking (R153). -/
def refreshPeak (input : Byte) (s : State) : State :=
  { s with runningMax := input, countdown := s.cfg.peakTimeoutByte }

/-- The DETECT condition (R154). It is asked with `input < running_max`, where the difference does not wrap. -/
def detects (input : Byte) (s : State) : Bool :=
  decide (input ≤ s.cfg.minT) && decide (s.cfg.peakDelta ≤ (s.runningMax - input).toNat)

/-- `Accumulate()` (R156): the count saturates at 127. -/
def accumulate (s : State) : State :=
  { s with clapCount := if s.clapCount < 127 then s.clapCount + 1 else s.clapCount }

/-- DETECT (R155, R157): count, timestamp, enter debounce. -/
def detectClap (s : State) : State :=
  { memWrite4 (nowMs s) (accumulate s) with
    runningMax := s.cfg.debBaseByte
    countdown := s.cfg.debCdByte }

/-- DECAY and TIMEOUT (R158). -/
def decayPeak (s : State) : State :=
  { s with
    countdown := s.countdown - 1
    runningMax := if s.countdown - 1 = 0 then s.cfg.maxT else s.runningMax }

/-- `TrackerStep(input)` (R150): exactly one branch, in the order written. It is total: a state outside the
invariant is treated as idle with ceiling `running_max` (R166). -/
def trackerStep (input : Byte) (s : State) : State :=
  if s.runningMax < s.cfg.maxT then debounceStep s
  else if s.runningMax ≤ input then refreshPeak input s
  else if s.countdown = 0 then s
  else if detects input s then detectClap s
  else decayPeak s

end Sys2Proof.Machine
end

