-- ==== Sys2Proof/Machine/Interrupt.lean ====
section
/-! DEFINITION. The interrupt and the host's mask primitives (spec 60_exceptions, 40_sampler R120): ISR, SEI, CLI. -/

namespace Sys2Proof.Machine

/-- The body of the service routine: the tracker step on ADCH; ADCL is never read (40_sampler R120). -/
def serviceSample (s : State) : State := trackerStep (memRead1 .adch s) s

/-- `ISR` (R231, R232): entry, body and return as one atomic step. -/
def execIsr (s : State) : Result :=
  whenEnabled (interruptTaken s) (.next (interruptReturn (serviceSample (interruptEnter s))))

/-- `SEI` (R240). -/
def execSei (s : State) : Result := whenEnabled (hostReady s) (.next { s with gie := true })

/-- `CLI` (R241). -/
def execCli (s : State) : Result := whenEnabled (hostReady s) (.next { s with gie := false })

end Sys2Proof.Machine
end

