-- ==== Sys2Proof/Machine/Reducer.lean ====
section
/-! DEFINITION. The host's `poll()` as micro-steps (spec 42_reducer): POLL, HSTEP. -/

namespace Sys2Proof.Machine

/-- P_READ1 (R191). -/
def pRead1 (s : State) : State :=
  { s with
    tmpC1 := memRead1 .clapCount s
    hp := if s.processedClaps < memRead1 .clapCount s then .pInprog else .pRead2 }

/-- P_READ2 (R192). -/
def pRead2 (s : State) : State :=
  if 0 < memRead1 .clapCount s then { s with tmpC2 := memRead1 .clapCount s, hp := .pCsEnter }
  else emit .noEvent { s with tmpC2 := memRead1 .clapCount s }

/-- P_INPROG (R193–R196): count one report; at 127 the overflow resets both counters. -/
def pInprog (s : State) : State :=
  if s.processedClaps + 1 = 127 then
    emit .overflow { memWrite1 .clapCount 0 s with processedClaps := 0 }
  else
    emit (.seriesInProgress (s.processedClaps + 1)) { s with processedClaps := s.processedClaps + 1 }

/-- P_CS_ENTER (R197). -/
def pCsEnter (s : State) : State := { criticalEnter s with hp := .pCsRead }

/-- P_CS_READ (R198): the only host read of `last_clap`. -/
def pCsRead (s : State) : State := { s with tmpT := memRead4 s, hp := .pCsExit }

/-- P_CS_EXIT (R199). -/
def pCsExit (s : State) : State := { criticalExit s with hp := .pNow }

/-- P_NOW (R200). -/
def pNow (s : State) : State := { s with tmpNow := nowMs s, hp := .pCmp }

/-- P_CMP (R201): strictly more than SERIES_TIMEOUT_MS, the difference taken mod 2^32. -/
def pCmp (s : State) : State :=
  if s.cfg.seriesTimeoutMs < s.tmpNow - s.tmpT then { s with hp := .pSnap } else emit .noEvent s

/-- P_SNAP: R202, or the atomic fetch-and-subtract of R206 when ATOMIC_FINISH is true. -/
def pSnap (s : State) : State :=
  if s.cfg.atomicFinish then
    emit (.seriesFinished (memRead1 .clapCount s))
      { memWrite1 .clapCount (memRead1 .clapCount s - s.processedClaps) s with
        tmpS := memRead1 .clapCount s
        processedClaps := 0 }
  else { s with tmpS := memRead1 .clapCount s, hp := .pRmwRead }

/-- P_RMW_READ (R203). -/
def pRmwRead (s : State) : State := { s with tmpR := memRead1 .clapCount s, hp := .pRmwWrite }

/-- P_RMW_WRITE (R204): a clap counted since P_RMW_READ is overwritten. -/
def pRmwWrite (s : State) : State :=
  { memWrite1 .clapCount (s.tmpR - s.processedClaps) s with hp := .pFinDone }

/-- P_FIN_DONE (R205). -/
def pFinDone (s : State) : State := emit (.seriesFinished s.tmpS) { s with processedClaps := 0 }

/-- The micro-step named by `hp` (R190). At Ready there is none. -/
def microStep (s : State) : State :=
  match s.hp with
  | .ready => s
  | .pRead1 => pRead1 s
  | .pRead2 => pRead2 s
  | .pInprog => pInprog s
  | .pCsEnter => pCsEnter s
  | .pCsRead => pCsRead s
  | .pCsExit => pCsExit s
  | .pNow => pNow s
  | .pCmp => pCmp s
  | .pSnap => pSnap s
  | .pRmwRead => pRmwRead s
  | .pRmwWrite => pRmwWrite s
  | .pFinDone => pFinDone s

/-- `POLL` (R191): start `poll()` with its first micro-step. -/
def execPoll (s : State) : Result := whenEnabled (hostReady s) (.next (pRead1 s))

/-- `HSTEP` (R190): the next micro-step of the poll in progress. -/
def execHstep (s : State) : Result := whenEnabled (!hostReady s) (.next (microStep s))

end Sys2Proof.Machine
end

