-- ==== Sys2Proof/Machine/Operands.lean ====
section
/-! DEFINITION. The one operand form, the unsigned byte of format V (30_encoding R86, R87), and the signed byte of an event (30_encoding R92). -/

namespace Sys2Proof.Machine

/-- The operand of `CONVERT v`: the 8-bit conversion result, which becomes ADCH, unscaled (R87). -/
def sampleOperand (v : Byte) : Byte := v

/-- The operand of `ADVANCE k`: a count of milliseconds, zero-extended and unscaled (R87). -/
def millisOperand (k : Byte) : Dword := k.setWidth 32

/-- The signed byte that the original `poll()` returns for an event (R92). It is not injective (R93): a
claim observes the abstract event. -/
def Event.toInt8 : Event → Byte
  | .noEvent => 0
  | .seriesInProgress n => 0 - n
  | .seriesFinished n => n
  | .overflow => 127

end Sys2Proof.Machine
end

