-- ==== Sys2Proof/Machine/Sampler.lean ====
section
/-! DEFINITION. The sampler driver, the converter and the clock (spec 40_sampler): INIT, ENABLE, DISABLE, CONVERT, ADVANCE. -/

namespace Sys2Proof.Machine

/-- `INIT`'s state configuration (R111). -/
def initCells (s : State) : State :=
  { s with
    runningMax := s.cfg.maxT
    countdown := 0
    clapCount := 0
    lastClap := 0
    processedClaps := 0
    initialized := true }

/-- `INIT`'s register configuration: the three writes in their order (R112). -/
def initRegisters (s : State) : State :=
  memWrite1 .adcsra (packAdcsra true true true false false s.cfg.psCode)
    (memWrite1 .adcsrb (memRead1 .adcsrb s &&& 0x40 ||| 0b000)
      (memWrite1 .admux (packAdmux s.cfg.adcRef true s.cfg.adcChannel) s))

/-- `INIT` (R110–R112), one step; it faults while the interrupt is enabled. -/
def execInit (s : State) : Result :=
  whenEnabled (hostReady s)
    (if s.adie then .fault .initWhileEnabled else .next (initRegisters (initCells s)))

/-- ADIE written, and a pending ADIF cleared or not, as `clear` says (R113, R114, 70_reset R274). -/
def setInterruptEnable (enable clear : Bool) (s : State) : State :=
  if clear then setAdif false (setAdie enable s) else setAdie enable s

/-- `ENABLE` (R113); it faults before any `INIT`. Whether ADIF is cleared is a free value (log 4). -/
def execEnable (s : State) : Result :=
  whenEnabled (hostReady s)
    (if s.initialized then .next (countDraw (setInterruptEnable true (Config.clearDraw s.draws) s))
     else .fault .enableBeforeInit)

/-- `DISABLE` (R114): the converter, the tracker and the accumulator are untouched. Whether ADIF is cleared
is a free value (log 4). -/
def execDisable (s : State) : Result :=
  whenEnabled (hostReady s)
    (.next (countDraw (setInterruptEnable false (Config.clearDraw s.draws) s)))

/-- A conversion completes with the high byte `v` and the low bits `low` (R118). Outside free-running mode
the converter stops. -/
def completeConversion (v : Byte) (low : BitVec 2) (s : State) : State :=
  setAdif true
    { s with adch := v, adcl := low ++ 0#6, convRunning := s.freeRunning && s.convRunning }

/-- `CONVERT v` (R117–R119). ADCL's low result bits are a free value (log 4). -/
def execConvert (v : Byte) (s : State) : Result :=
  whenEnabled (converterOn s)
    (.next (countDraw (completeConversion (sampleOperand v) (Config.adclDraw s.draws) s)))

/-- `ADVANCE k` (R122), always enabled; the clock wraps mod 2^32. -/
def execAdvance (k : Byte) (s : State) : Result :=
  .next { s with envMs := s.envMs + millisOperand k }

end Sys2Proof.Machine
end

