-- ==== Sys2Proof/Machine/Dispatch.lean ====
section
/-! DEFINITION. The meaning of every operation (spec 30_encoding R88). -/

namespace Sys2Proof.Machine

def exec (i : Instr) (s : State) : Host.Outcome State Fault Refusal :=
  match i with
  | .init => Sys2Proof.Machine.execInit s
  | .enable => Sys2Proof.Machine.execEnable s
  | .disable => Sys2Proof.Machine.execDisable s
  | .poll => Sys2Proof.Machine.execPoll s
  | .sei => Sys2Proof.Machine.execSei s
  | .cli => Sys2Proof.Machine.execCli s
  | .hstep => Sys2Proof.Machine.execHstep s
  | .convert v => Sys2Proof.Machine.execConvert v s
  | .isr => Sys2Proof.Machine.execIsr s
  | .advance k => Sys2Proof.Machine.execAdvance k s

end Sys2Proof.Machine
end

