-- ==== Sys2Proof/Machine/Perform.lean ====
section
/-! DEFINITION. Performing operation words: the fetch from the schedule, one word, a list of words, and the launch of a run (spec 30_encoding R96, R99; 60_exceptions R237, R238). -/

namespace Sys2Proof.Machine

/-- The next word of the schedule, and the state without it (30_encoding R96). -/
def fetch (s : State) : Option (Word × State) :=
  match s.schedule with
  | [] => none
  | w :: rest => some (w, { s with schedule := rest })

/-- Perform one word: the operation it decodes to, or `ReservedEncoding` (30_encoding R89, R99). -/
def performWord (w : Word) (s : State) : Result :=
  match decode w with
  | .ok i => exec i s
  | .error _ => .refused .reservedEncoding

/-- Perform a program, a list of words in order, one per step, stopping at the first fault or refusal
(30_encoding R96). The state it ends in is the program's result. -/
def perform : List Word → State → Result
  | [], s => .next s
  | w :: rest, s =>
    match blocked s with
    | some outcome => outcome
    | none =>
      match performWord w s with
      | .next s' => perform rest s'
      | .fault reason => .fault reason
      | .refused reason => .refused reason

/-- The launch of a run (60_exceptions R238): an invalid configuration is refused before reset with its
code; a valid one resets with the draw `ms` of `env_ms` and the program `words` to perform. -/
def launch (c : Config) (ms : Dword) (words : List Word) : Result :=
  match c.firstError with
  | some e => .refused (.invalidConfiguration e)
  | none => .next { State.resetWith c ms with schedule := words }

/-- `s` with `w` in the place of the next word of its schedule. -/
def placeWord (w : Word) (s : State) : State := { s with schedule := w :: s.schedule.tail }

end Sys2Proof.Machine
end

