-- ==== Sys2Proof/Machine/Step.lean ====
section
/-! DEFINITION. One step of the machine, and the place the host puts an instruction for it. -/

namespace Sys2Proof.Machine

/-- One step: the next word of the schedule is performed (spec 30_encoding R96, R97). A state that is marked,
or whose configuration has no run, has no step (60_exceptions R236–R238); neither has one whose schedule is
empty (log 1). -/
def step (s : State) : Host.Outcome State Fault Refusal :=
  match blocked s with
  | some outcome => outcome
  | none =>
    match fetch s with
    | none => .refused .endOfSchedule
    | some (w, s') => performWord w s'

/-- One step with the marks of 10_state R40 recorded in the state it leaves behind. -/
def stepRecorded (s : State) : State := recordOutcome s (step s)

/-- `s` with the operation word of `nbits` bits `w` where `step` takes its next word: the head of the
schedule (log 1). -/
def State.withFetchWord (s : State) (nbits w : Nat) : State :=
  placeWord (tableWord nbits w) s

end Sys2Proof.Machine
end

