-- ==== Sys2Proof/Machine/Assembler.lean ====
section
/-! DEFINITION. The assembler syntax of a schedule (spec 30_encoding R94), over lists of characters. -/

namespace Sys2Proof.Machine

/-- The mnemonics of format N (30_encoding R88). -/
def mnemonicsN : List (List Char × Instr) :=
  [ ("INIT".toList, .init), ("ENABLE".toList, .enable), ("DISABLE".toList, .disable),
    ("POLL".toList, .poll), ("SEI".toList, .sei), ("CLI".toList, .cli),
    ("HSTEP".toList, .hstep), ("ISR".toList, .isr) ]

/-- The mnemonics of format V (30_encoding R88). -/
def mnemonicsV : List (List Char × (Byte → Instr)) :=
  [ ("CONVERT".toList, .convert), ("ADVANCE".toList, .advance) ]

/-- The value of a decimal digit. -/
def decimalDigit (c : Char) : Option Nat :=
  if 48 ≤ c.toNat ∧ c.toNat ≤ 57 then some (c.toNat - 48) else none

/-- The value of a hex digit, in capitals or small letters (log 15). -/
def hexDigit (c : Char) : Option Nat :=
  if 65 ≤ c.toNat ∧ c.toNat ≤ 70 then some (c.toNat - 55)
  else if 97 ≤ c.toNat ∧ c.toNat ≤ 102 then some (c.toNat - 87)
  else decimalDigit c

/-- The number that decimal digits write, most significant first; `seen` is what stands before them. -/
def decimalFrom (seen : Nat) : List Char → Option Nat
  | [] => some seen
  | c :: rest => (decimalDigit c).bind fun d => decimalFrom (10 * seen + d) rest

/-- A byte, if the number is one. -/
def byteOfNat (n : Nat) : Option Byte :=
  if n ≤ 255 then some (BitVec.ofNat 8 n) else none

/-- An operand: `0x` and two hex digits, or a decimal number 0..255 (R94). -/
def parseOperand : List Char → Option Byte
  | ['0', 'x', high, low] =>
    (hexDigit high).bind fun h => (hexDigit low).bind fun l => byteOfNat (16 * h + l)
  | [] => none
  | digits => (decimalFrom 0 digits).bind byteOfNat

/-- A space or a tab separates the words of a line (log 15). -/
def isBlank (c : Char) : Bool := c == ' ' || c == '\t'

/-- The blank-separated words of a line. -/
def lineWords (line : List Char) : List (List Char) :=
  let pieces := line.foldr (fun c pieces =>
    if isBlank c then [] :: pieces
    else match pieces with
      | [] => [[c]]
      | piece :: others => (c :: piece) :: others) [[]]
  pieces.filter fun piece => !piece.isEmpty

/-- A line without its comment: `;` starts one that runs to the end of the line (R94). -/
def stripComment (line : List Char) : List Char := line.takeWhile fun c => c != ';'

/-- One line (R94): `none` for a syntax error, `some none` for a blank line, else its operation. -/
def parseLine (line : List Char) : Option (Option Instr) :=
  match lineWords (stripComment line) with
  | [] => some none
  | [name] => (mnemonicsN.lookup name).map some
  | [name, operand] =>
    (mnemonicsV.lookup name).bind fun build => (parseOperand operand).map fun v => some (build v)
  | _ => none

/-- The lines of a text. R94 does not say what ends a line: a line feed does, and a carriage return before it
is no blank, so that it makes the line a syntax error. DESIGN CHOICE (log 15). -/
def textLines (text : List Char) : List (List Char) :=
  text.foldr (fun c lines =>
    if c == '\n' then [] :: lines
    else match lines with
      | [] => [[c]]
      | line :: others => (c :: line) :: others) [[]]

/-- The program of a list of lines: the words of its operations in order, blank lines ignored. -/
def assembleLines : List (List Char) → Option (List Word)
  | [] => some []
  | line :: rest =>
    (parseLine line).bind fun parsed =>
      (assembleLines rest).map fun words =>
        match parsed with
        | some i => encode i :: words
        | none => words

/-- The program that a text in the syntax of R94 stands for, `none` for a syntax error. -/
def assemble (text : List Char) : Option (List Word) := assembleLines (textLines text)

/-- The character of a decimal digit. -/
def digitChar (d : Nat) : Char := Char.ofNat (48 + d)

/-- A byte as a decimal number without leading zeros. -/
def printByte (v : Byte) : List Char :=
  let n := v.toNat
  if n < 10 then [digitChar n]
  else if n < 100 then [digitChar (n / 10), digitChar (n % 10)]
  else [digitChar (n / 100), digitChar (n / 10 % 10), digitChar (n % 10)]

/-- An operation as a line of the syntax of R94. -/
def printInstr : Instr → List Char
  | .init => "INIT".toList
  | .enable => "ENABLE".toList
  | .disable => "DISABLE".toList
  | .poll => "POLL".toList
  | .sei => "SEI".toList
  | .cli => "CLI".toList
  | .hstep => "HSTEP".toList
  | .convert v => "CONVERT ".toList ++ printByte v
  | .isr => "ISR".toList
  | .advance k => "ADVANCE ".toList ++ printByte k

end Sys2Proof.Machine
end

