-- ==== Sys2Proof/Machine/Pseudo.lean ====
section
/-! DEFINITION. The pseudo-operations and their expansions (spec 30_encoding R95). -/

namespace Sys2Proof.Machine

/-- How many `HSTEP`s bring the host back to Ready, at most `fuel` (42_reducer R207: at most 10 after `POLL`). -/
def hstepsToReady : Nat → State → Nat
  | 0, _ => 0
  | fuel + 1, s => if hostReady s then 0 else hstepsToReady fuel (microStep s) + 1

/-- `SAMPLE v`: `CONVERT v` then `ISR`. -/
def sampleWords (v : Byte) : List Word := [encode (.convert v), encode .isr]

/-- `POLLX` in the state `s`: `POLL`, then `HSTEP` until `hp = Ready`. -/
def pollxWords (s : State) : List Word :=
  encode .poll :: List.replicate (hstepsToReady 11 (pRead1 s)) (encode .hstep)

/-- `WAIT k`. -/
def waitWords (k : Nat) : List Word :=
  List.replicate (k / 255) (encode (.advance 255)) ++
    if k % 255 = 0 then [] else [encode (.advance (BitVec.ofNat 8 (k % 255)))]

/-- The words a pseudo-operation stands for in the state `s` (30_encoding R95). Only POLLX looks at it. -/
def expandPseudo (p : Pseudo) (s : State) : List Word :=
  match p with
  | .sample v => sampleWords v
  | .samples v n => (List.replicate n (sampleWords v)).flatten
  | .pollx => pollxWords s
  | .wait k => waitWords k
  | .boot => [encode .init, encode .enable, encode .sei]

/-- A pseudo-operation performed: its expansion is the only meaning it has (30_encoding R95). -/
def performPseudo (p : Pseudo) (s : State) : Result := perform (expandPseudo p s) s

end Sys2Proof.Machine
end

