-- ==== Sys2Proof/Safety.lean ====
section
/-! DEFINITION. The launch premises and invariants of the block (spec 70_reset R265, 41_tracker R163, 42_reducer R211) and the runs that claims speak of. -/

namespace Sys2Proof.Machine

/-! ## The invariant of every reachable state -/

/-- The bits that read 0 are 0 (10_state R21, R23, R24), and ADSC is not stored twice (log 6). -/
structure RegistersOk (s : State) : Prop where
  admuxReserved : s.admux &&& 0x10 = 0
  adcsrbReserved : s.adcsrb &&& 0xB8 = 0
  adclLow : s.adcl &&& 0x3F = 0
  adscNotStored : s.adcsra[6] = false

/-- The converter and the driver: the interrupt is enabled only after `INIT` (40_sampler R113), and after
`INIT` the converter is on and free-running until reset (40_sampler R112, 10_state R26, R28). -/
structure ConverterOk (s : State) : Prop where
  enabledAfterInit : s.adie = true → s.initialized = true
  onAfterInit : s.initialized = true → s.aden = true ∧ s.freeRunning = true ∧ s.convRunning = true
  offBeforeInit : s.initialized = false → s.convRunning = false

/-- The tracker ranges of 41_tracker R163. -/
structure TrackerOk (s : State) : Prop where
  lowerEnd : s.cfg.debBase ≤ s.runningMax.toNat
  idleCeiling : trackerMode s = .idle → s.runningMax = s.cfg.maxT
  trackingLive : trackerMode s = .tracking → 1 ≤ s.countdown.toNat ∧ s.countdown.toNat ≤ s.cfg.peakTimeout

/-- The ranges of the counters (10_state R32, R34) and the invariant of 42_reducer R211. -/
structure CountersOk (s : State) : Prop where
  clapRange : s.clapCount.toNat ≤ 127
  processedRange : s.processedClaps.toNat ≤ 126
  countedFirst : s.hp ≠ .pFinDone → s.processedClaps.toNat ≤ s.clapCount.toNat

/-- What a poll in progress knows at each of its phases: the interrupt is masked inside the critical
section (42_reducer R197), the temporaries that are still to be read are in range, and a phase that no
schedule reaches is not reached (log 11). -/
def PollOk (s : State) : Prop :=
  match s.hp with
  | .ready => True
  | .pRead1 => False
  | .pRead2 => True
  | .pInprog => s.processedClaps.toNat < s.tmpC1.toNat ∧ s.tmpC1.toNat ≤ s.clapCount.toNat
  | .pCsEnter => 1 ≤ s.clapCount.toNat
  | .pCsRead => 1 ≤ s.clapCount.toNat ∧ s.gie = false
  | .pCsExit => 1 ≤ s.clapCount.toNat ∧ s.gie = false
  | .pNow => 1 ≤ s.clapCount.toNat
  | .pCmp => 1 ≤ s.clapCount.toNat
  | .pSnap => 1 ≤ s.clapCount.toNat
  | .pRmwRead => s.cfg.atomicFinish = false ∧ 1 ≤ s.tmpS.toNat ∧ s.tmpS.toNat ≤ s.clapCount.toNat
  | .pRmwWrite =>
    s.cfg.atomicFinish = false ∧ 1 ≤ s.tmpS.toNat ∧ s.tmpS.toNat ≤ s.tmpR.toNat ∧
      s.processedClaps.toNat ≤ s.tmpR.toNat ∧ s.tmpR.toNat ≤ s.clapCount.toNat
  | .pFinDone => s.cfg.atomicFinish = false ∧ 1 ≤ s.tmpS.toNat ∧ s.tmpS.toNat ≤ 127

/-- The range of an event's count (30_encoding R91, R92). -/
def eventInRange : Event → Bool
  | .noEvent => true
  | .seriesInProgress n => decide (1 ≤ n.toNat) && decide (n.toNat ≤ 126)
  | .seriesFinished n => decide (1 ≤ n.toNat) && decide (n.toNat ≤ 127)
  | .overflow => true

/-- The premise `ValidConfig` (70_reset R264, R265). -/
def ValidConfig (c : Config) : Prop := c.wellFormed = true

/-- The premise `TrackerInvariant` (70_reset R265): the ranges of 41_tracker R163 and the invariant of
42_reducer R211. -/
def TrackerInvariant (s : State) : Prop := TrackerOk s ∧ CountersOk s

/-- The premise that no fault is recorded and the run is not refused (10_state R40, 70_reset R265). -/
def Unmarked (s : State) : Prop := s.fault = none ∧ s.refused = false

/-- The invariant that every step keeps. -/
structure Inv (s : State) : Prop where
  config : ValidConfig s.cfg
  unmarked : Unmarked s
  registers : RegistersOk s
  converter : ConverterOk s
  tracker : TrackerOk s
  counters : CountersOk s
  poll : PollOk s
  events : s.events.all eventInRange = true

/-! ## The launch premises about schedules (70_reset R265) -/

/-- Whether a word is an operation and not reserved. -/
def isOperation (w : Word) : Bool :=
  match decode w with
  | .ok _ => true
  | .error _ => false

/-- `DriverOwnsADC` (10_state R28): the program is made of operation words alone, and none of them reaches an
ADC register but as the driver, the converter or the service routine does. -/
def DriverOwnsADC (program : List Word) : Prop := program.all isOperation = true

/-- `NoSleep` (60_exceptions R247): the program is made of operation words alone, and none of them puts the
core to sleep. -/
def NoSleep (program : List Word) : Prop := program.all isOperation = true

/-- `ClockMonotone` (40_sampler R122): a step leaves `env_ms` alone or adds the operand of the `ADVANCE` it performs. -/
def ClockMonotone (s : State) : Prop :=
  ∀ s', step s = .next s' →
    s'.envMs = s.envMs ∨
      ∃ k w rest, s.schedule = w :: rest ∧ decode w = .ok (.advance k) ∧ s'.envMs = s.envMs + k.setWidth 32

/-- Between any two successive `CONVERT` words there is exactly one `ISR` word (70_reset R270 item 1);
`since` is how many `ISR` words stand behind the last `CONVERT`, if there was one. -/
def oneIsrBetween (since : Option Nat) : List Word → Bool
  | [] => true
  | w :: rest =>
    match decode w with
    | .ok (.convert _) => (since == none || since == some 1) && oneIsrBetween (some 0) rest
    | .ok .isr => oneIsrBetween (since.map (· + 1)) rest
    | _ => oneIsrBetween since rest

/-- ADIE = 1 and `gie` = 1 at every `CONVERT` word of a program performed from `s` (70_reset R270 item 2). -/
def armedAtConverts : List Word → State → Bool
  | [], _ => true
  | w :: rest, s =>
    (match decode w with
     | .ok (.convert _) => s.adie && s.gie
     | _ => true) &&
    match performWord w s with
    | .next s' => armedAtConverts rest s'
    | .fault _ => true
    | .refused _ => true

/-- `NoOverrun` (70_reset R270) of a program performed from the booted state `s`. -/
def NoOverrun (program : List Word) (s : State) : Prop :=
  oneIsrBetween none program = true ∧ armedAtConverts program s = true

/-- An operation word with the CPU cycle at which it is performed (log 16). -/
structure TimedWord where
  cycle : Nat
  word : Word
deriving DecidableEq, Repr

/-- Successive `CONVERT` words are C_SAMPLE cycles apart; `last` is the cycle of the one before, if any. -/
def convertsOnTime (c : Config) (last : Option Nat) : List TimedWord → Bool
  | [] => true
  | tw :: rest =>
    match decode tw.word with
    | .ok (.convert _) =>
      (last.all fun previous => previous + c.cSample == tw.cycle) && convertsOnTime c (some tw.cycle) rest
    | _ => convertsOnTime c last rest

/-- The cycle at which a timed program begins: that of its first word. -/
def startCycle (program : List TimedWord) : Nat := (program.head?.map fun tw => tw.cycle).getD 0

/-- The cycle at which a timed program ends: that of its last word. -/
def endCycle (program : List TimedWord) : Nat := (program.getLast?.map fun tw => tw.cycle).getD 0

/-- The whole milliseconds from the cycle `start` to the cycle `now`. DESIGN CHOICE: rounded down (log 16). -/
def elapsedMs (c : Config) (start now : Nat) : Nat := (now - start) * 1000 / c.fCpu

/-- The operation words of a timed program. -/
def timedWords (program : List TimedWord) : List Word := program.map fun tw => tw.word

/-- The milliseconds that the word advances the clock by. -/
def millisOf (w : Word) : Nat :=
  match decode w with
  | .ok (.advance k) => k.toNat
  | _ => 0

/-- Whether the word is an `ADVANCE`. -/
def isAdvance (w : Word) : Bool :=
  match decode w with
  | .ok (.advance _) => true
  | _ => false

/-- The milliseconds that the `ADVANCE` words of a program add up to. -/
def advancedMs (program : List Word) : Nat := (program.map millisOf).sum

/-- At every word but an `ADVANCE`, the `ADVANCE` words before it, which add up to `seen` so far, add up to
the milliseconds elapsed since `start`. -/
def clockOnTime (c : Config) (start seen : Nat) : List TimedWord → Bool
  | [] => true
  | tw :: rest =>
    (isAdvance tw.word || seen == elapsedMs c start tw.cycle) &&
      clockOnTime c start (seen + millisOf tw.word) rest

/-- `RealTime` (70_reset R279) of a timed program, whose own stamps are its time. DESIGN CHOICE: item 2 is
read at every word that a step could read the clock at, and at the end (log 16). -/
structure RealTime (c : Config) (program : List TimedWord) : Prop where
  /-- The words are performed in their order. -/
  ordered : program.Pairwise fun a b => a.cycle ≤ b.cycle
  /-- Item 1: successive `CONVERT` words are T_SAMPLE apart. -/
  conversions : convertsOnTime c none program = true
  /-- Item 2 at every word but an `ADVANCE`. -/
  clock : clockOnTime c (startCycle program) 0 program = true
  /-- Item 2 of the whole schedule. -/
  total : advancedMs (timedWords program) = elapsedMs c (startCycle program) (endCycle program)

/-! ## The runs that claims speak of -/

/-- A program runs to its end: no fault and no refusal. -/
def RunsToEnd (program : List Word) (s : State) : Prop := ∃ s', perform program s = .next s'

/-- The tracker after the service routine has run on each sample in turn (41_tracker R161, R162). -/
def trackSamples : List Byte → State → State
  | [], s => s
  | input :: rest, s => trackSamples rest (trackerStep input s)

/-- `n` micro-steps of the poll in progress. -/
def hstepWords (n : Nat) : List Word := List.replicate n (encode .hstep)

/-- The interrupt is enabled and its service routine will count a clap, the count below its saturation
(41_tracker R154–R156, 60_exceptions R231). -/
structure ClapPending (s : State) : Prop where
  enabled : s.adif = true ∧ s.adie = true ∧ s.gie = true
  tracking : trackerMode s = .tracking
  falling : s.adch.toNat < s.runningMax.toNat
  qualifies : detects s.adch s = true
  unsaturated : s.clapCount.toNat < 127

/-- The clap interrupts the poll in progress, which then runs its last `n` micro-steps. -/
def clapThenSteps (n : Nat) (s : State) : Result := perform (encode .isr :: hstepWords n) s

/-- The series has timed out for a host that read `last_clap` as `t` and the clock as `now` (42_reducer R201). -/
def timedOut (c : Config) (t now : Dword) : Prop := c.seriesTimeoutMs < now - t

/-- A whole `poll()` with no other agent inside it (POLLX, 30_encoding R95). -/
def wholePoll (s : State) : Result := performPseudo .pollx s

/-- No clap has been counted and none is being tracked, and no poll has seen one (41_tracker R164,
42_reducer R210). -/
structure Quiet (s : State) : Prop where
  notTracking : trackerMode s ≠ .tracking
  idleCeiling : trackerMode s = .idle → s.runningMax = s.cfg.maxT
  sampleBelow : s.adch.toNat < s.cfg.maxT.toNat
  noClaps : s.clapCount = 0 ∧ s.processedClaps = 0
  phase : s.hp = .ready ∨ s.hp = .pRead2
  onlyNoEvent : ∀ e ∈ s.events, e = .noEvent

/-- A word that is no `CONVERT v` with `v` at or above MAX_T. -/
def quietWord (c : Config) (w : Word) : Bool :=
  match decode w with
  | .ok (.convert v) => decide (v.toNat < c.maxT.toNat)
  | _ => true

/-! ## Poll temporaries (10_state R36) -/

/-- The state with every poll temporary at zero. -/
def clearTemps (s : State) : State :=
  { s with tmpC1 := 0, tmpC2 := 0, tmpT := 0, tmpNow := 0, tmpS := 0, tmpR := 0, tmpG := false }

/-- The two states agree on the temporaries that a later micro-step of the poll in progress still reads. -/
def liveTempsAgree (a b : State) : Prop :=
  match a.hp with
  | .pCsRead => a.tmpG = b.tmpG
  | .pCsExit => a.tmpG = b.tmpG ∧ a.tmpT = b.tmpT
  | .pNow => a.tmpT = b.tmpT
  | .pCmp => a.tmpT = b.tmpT ∧ a.tmpNow = b.tmpNow
  | .pRmwRead => a.tmpS = b.tmpS
  | .pRmwWrite => a.tmpS = b.tmpS ∧ a.tmpR = b.tmpR
  | .pFinDone => a.tmpS = b.tmpS
  | .ready => True
  | .pRead1 => True
  | .pRead2 => True
  | .pInprog => True
  | .pCsEnter => True
  | .pSnap => True

/-- The states differ at most in temporaries that no later micro-step reads. -/
def SameButDeadTemps (a b : State) : Prop := clearTemps a = clearTemps b ∧ liveTempsAgree a b

end Sys2Proof.Machine
end

