-- ==== Sys2Proof/Certificates/Slice0/Obligations.lean ====
section
/-! DEFINITION. The statements about the model, for the provers. Each docstring names the rules of spec/ it formalises. -/

open Sys2Proof Sys2Proof.Machine

/-! ## Encoding -/

/-- 30_encoding R86–R89: the decoder reads every operation back from the word the encoder gives it. -/
def Obligations.DecodeReadsEncoded : Prop :=
  ∀ i : Instr, i.wellFormed = true → decode (encode i) = .ok i

/-- 30_encoding R89, R97: a word that decodes is the word of its operation, so no bit of a word is dropped
and no two words mean the same operation. -/
def Obligations.EncodeRebuildsDecodedWord : Prop :=
  ∀ (w : Word) (i : Instr), decode w = .ok i → encode i = w

/-- 30_encoding R89: the ten rows, their disjointness, and that a word selects the row it matches; a word
that matches none is Reserved. -/
def Obligations.DecodeFollowsOpcodeTable : Prop :=
  let rows : List (Word × Word) :=
    [(0xFFFF, 0x0100), (0xFFFF, 0x0200), (0xFFFF, 0x0300), (0xFFFF, 0x0400), (0xFFFF, 0x0500),
     (0xFFFF, 0x0600), (0xFFFF, 0x0700), (0xFF00, 0x1000), (0xFFFF, 0x1100), (0xFF00, 0x2000)]
  (rows.Pairwise fun a b => ∀ w : Word, ¬(w &&& a.1 = a.2 ∧ w &&& b.1 = b.2)) ∧
  ∀ w : Word,
    (w &&& 0xFFFF = 0x0100 → decode w = .ok .init) ∧
    (w &&& 0xFFFF = 0x0200 → decode w = .ok .enable) ∧
    (w &&& 0xFFFF = 0x0300 → decode w = .ok .disable) ∧
    (w &&& 0xFFFF = 0x0400 → decode w = .ok .poll) ∧
    (w &&& 0xFFFF = 0x0500 → decode w = .ok .sei) ∧
    (w &&& 0xFFFF = 0x0600 → decode w = .ok .cli) ∧
    (w &&& 0xFFFF = 0x0700 → decode w = .ok .hstep) ∧
    (w &&& 0xFF00 = 0x1000 → decode w = .ok (.convert (w.extractLsb' 0 8))) ∧
    (w &&& 0xFFFF = 0x1100 → decode w = .ok .isr) ∧
    (w &&& 0xFF00 = 0x2000 → decode w = .ok (.advance (w.extractLsb' 0 8))) ∧
    ((∀ row ∈ rows, w &&& row.1 ≠ row.2) → ∃ reason, decode w = .error reason)

/-- 30_encoding R98, R99 items 1 and 2, 60_exceptions R237: a word with an unlisted opcode, or of format N
with a nonzero operand byte, refuses the run with `ReservedEncoding`, and the run stays refused. -/
def Obligations.ReservedWordRefusesRun : Prop :=
  let listed : List Byte := [0x01, 0x02, 0x03, 0x04, 0x05, 0x06, 0x07, 0x10, 0x11, 0x20]
  let formatN : List Byte := [0x01, 0x02, 0x03, 0x04, 0x05, 0x06, 0x07, 0x11]
  ∀ w : Word,
    (w.extractLsb' 8 8 ∉ listed ∨ (w.extractLsb' 8 8 ∈ formatN ∧ w.extractLsb' 0 8 ≠ 0)) →
    (∃ reason, decode w = .error reason) ∧
    ∀ (s : State) (rest : List Word), ValidConfig s.cfg → Unmarked s → s.schedule = w :: rest →
      step s = .refused .reservedEncoding ∧ (stepRecorded s).refused = true

/-- 30_encoding R88, R89 (vectors of 95_test_vectors section 2): a few words and the operations they stand for. -/
def Obligations.SpecWordsDecode : Prop :=
  decode 0b0000000100000000 = .ok .init ∧ decode 0b0000001000000000 = .ok .enable ∧
  decode 0b0000001100000000 = .ok .disable ∧ decode 0b0000010000000000 = .ok .poll ∧
  decode 0b0000010100000000 = .ok .sei ∧ decode 0b0000011000000000 = .ok .cli ∧
  decode 0b0000011100000000 = .ok .hstep ∧ decode 0b0001000011111111 = .ok (.convert 255) ∧
  decode 0b0001000100000000 = .ok .isr ∧ decode 0b0010000010101010 = .ok (.advance 170)

/-- 30_encoding R94: the ten mnemonics spelled out; an operand in decimal or as `0x` and two hex digits; a
comment; a blank line; one operation per line; and every operation read back from the line printed for it.
What is a blank and what ends a line is the model's choice (log 15). -/
def Obligations.AssemblerReadsPrintedLine : Prop :=
  let formatN : List (String × Instr) :=
    [("INIT", .init), ("ENABLE", .enable), ("DISABLE", .disable), ("POLL", .poll), ("SEI", .sei),
     ("CLI", .cli), ("HSTEP", .hstep), ("ISR", .isr)]
  let formatV : List (String × (Byte → Instr)) := [("CONVERT", .convert), ("ADVANCE", .advance)]
  let hexDigits : List Char := "0123456789ABCDEF".toList
  (∀ entry ∈ formatN, parseLine entry.1.toList = some (some entry.2)) ∧
  (∀ entry ∈ formatV, ∀ v : Byte,
    parseLine (entry.1.toList ++ ' ' :: Nat.toDigits 10 v.toNat) = some (some (entry.2 v)) ∧
    parseLine (entry.1.toList ++
      [' ', '0', 'x', hexDigits.getD (v.toNat / 16) '0', hexDigits.getD (v.toNat % 16) '0']) =
        some (some (entry.2 v))) ∧
  (∀ line comment : List Char, ';' ∉ line → parseLine (line ++ ';' :: comment) = parseLine line) ∧
  (∀ line : List Char, (∀ c ∈ line, c = ' ' ∨ c = '\t') → parseLine line = some none) ∧
  (∀ i : Instr, parseLine (printInstr i) = some (some i)) ∧
  ∀ program : List Instr,
    assemble (program.flatMap fun i => printInstr i ++ ['\n']) = some (program.map encode)

/-! ## Steps and runs -/

/-- 30_encoding R96, R97: where the next word of the schedule decodes to an operation, the step is that
operation's meaning on the state without the word. -/
def Obligations.StepRunsDecodedOperation : Prop :=
  ∀ (s : State) (w : Word) (rest : List Word) (i : Instr),
    ValidConfig s.cfg → Unmarked s → s.schedule = w :: rest → decode w = .ok i →
    step s = exec i { s with schedule := rest }

/-- 30_encoding R96: the steps of a schedule are the program performed word by word, whatever the schedule
and wherever it stops. -/
def Obligations.StepsOfScheduleAreProgram : Prop :=
  ∀ s : State,
    Host.Core.run core s.schedule.length s = perform s.schedule { s with schedule := [] }

/-- 10_state R40, 60_exceptions R236, R237: a fault or a refusal is recorded, a marked state has no next
state, and no step clears a mark. The end of the schedule is no refusal of the spec's and sets no mark (log 7). -/
def Obligations.MarksAreRecordedAndFinal : Prop :=
  ∀ s : State,
    (∀ reason, s.fault = some reason → step s = .fault reason ∧ (stepRecorded s).fault = some reason) ∧
    (s.refused = true → (∀ s', step s ≠ .next s') ∧ (stepRecorded s).refused = true) ∧
    (∀ reason, step s = .fault reason → (stepRecorded s).fault = some reason) ∧
    (∀ reason, step s = .refused reason → reason ≠ .endOfSchedule → (stepRecorded s).refused = true) ∧
    (Unmarked s → ∀ s', step s = .next s' → Unmarked s')

/-- 40_sampler R123–R125, 60_exceptions R238: exactly the configurations that pass the eight checks have a
run, which starts at reset with the program as its schedule; the others are refused before reset with the
code of the first check that fails, the checks and their order written out. That the selected quotient is
exact is read from R125 (log 9). The model's choices of log 9: a quotient that is no natural number is
rounded down in the checks before `E_CLOCK`, and a C_SAMPLE of 0, whose sample counts do not exist, fails
none of the checks that read them. -/
def Obligations.LaunchAcceptsExactlyValidConfigurations : Prop :=
  ∀ (c : Config) (ms : Dword) (program : List Word),
    let p := match c.prescaler with
      | .selected => c.fCpu / 125000
      | .given division => division
    let peakTimeout := c.peakTimeoutUs * c.fCpu / (13 * p * 1000000)
    let debHi := c.debounceMs * 1000 * c.fCpu / (13 * p * 1000000) / 256
    let refuse (e : ConfigError) : Result := .refused (.invalidConfiguration e)
    ((∃ s, launch c ms program = .next s) ↔
      c.minT.toNat < c.maxT.toNat ∧
      (c.maxT.toNat - c.minT.toNat) + c.jitter.toNat ≤ 255 ∧
      c.fCpu > 3000 * (13 * p) ∧
      debHi < c.maxT.toNat ∧
      (1 ≤ peakTimeout ∧ peakTimeout ≤ 255) ∧
      (p ∈ [2, 4, 8, 16, 32, 64, 128] ∧ (c.prescaler = .selected → 125000 * p = c.fCpu)) ∧
      c.adcRef ≠ 0b10 ∧
      (c.adcChannel.toNat ≤ 0b1000 ∨ c.adcChannel = 0b1110 ∨ c.adcChannel = 0b1111)) ∧
    launch c ms program =
      (if ¬ c.minT.toNat < c.maxT.toNat then refuse .E_THRESH_ORDER
      else if ¬ (c.maxT.toNat - c.minT.toNat) + c.jitter.toNat ≤ 255 then refuse .E_DELTA_RANGE
      else if ¬ c.fCpu > 3000 * (13 * p) then refuse .E_RATE
      else if p ≠ 0 ∧ ¬ debHi < c.maxT.toNat then refuse .E_DEBOUNCE_PACK
      else if p ≠ 0 ∧ ¬ (1 ≤ peakTimeout ∧ peakTimeout ≤ 255) then refuse .E_TIMEOUT_RANGE
      else if ¬ (p ∈ [2, 4, 8, 16, 32, 64, 128] ∧ (c.prescaler = .selected → 125000 * p = c.fCpu)) then
        refuse .E_CLOCK
      else if c.adcRef = 0b10 then refuse .E_REF
      else if ¬ (c.adcChannel.toNat ≤ 0b1000 ∨ c.adcChannel = 0b1110 ∨ c.adcChannel = 0b1111) then
        refuse .E_CHANNEL
      else .next { State.resetWith c ms with schedule := program })

/-- 40_sampler R128: no step changes a parameter, and a valid configuration is never refused at run time. -/
def Obligations.ParametersNeverChange : Prop :=
  (∀ s s' : State, step s = .next s' → s'.cfg = s.cfg) ∧
  ∀ (s : State) (e : ConfigError), ValidConfig s.cfg → step s ≠ .refused (.invalidConfiguration e)

/-! ## Reset and the invariant -/

/-- 10_state R42, 70_reset R260: every element that the table gives a value, under every configuration and
every draw of `env_ms`. The poll temporaries, to which the table gives no value, are left out. The
configuration and the draw of `State.reset` are the model's choice (logs 2, 3). -/
def Obligations.ResetValues : Prop :=
  (∀ (c : Config) (ms : Dword),
    let s := State.resetWith c ms
    s.cfg = c ∧ s.admux = 0 ∧ s.readAdcsra = 0 ∧ s.adcsrb = 0 ∧ s.adch = 0 ∧ s.adcl = 0 ∧
    s.convRunning = false ∧ s.runningMax = c.maxT ∧ s.countdown = 0 ∧ s.clapCount = 0 ∧ s.lastClap = 0 ∧
    s.processedClaps = 0 ∧ s.hp = .ready ∧ s.gie = false ∧ s.initialized = false ∧ s.envMs = ms ∧
    s.fault = none ∧ s.refused = false ∧ s.events = []) ∧
  ∃ (c : Config) (ms : Dword), ValidConfig c ∧ State.reset = State.resetWith c ms

/-- 41_tracker R163, 42_reducer R211, 70_reset R265: reset establishes the invariant under every valid
configuration, so it holds of `State.reset`, whose configuration is the model's choice (log 2); and `INIT`
establishes the tracker invariant from any state. -/
def Obligations.ResetAndInitEstablishInvariant : Prop :=
  (∀ (c : Config) (ms : Dword), ValidConfig c → Inv (State.resetWith c ms)) ∧ Inv State.reset ∧
  ∀ s : State, ValidConfig s.cfg → s.hp = .ready → s.adie = false →
    ∃ t, exec .init s = .next t ∧ TrackerInvariant t ∧ trackerMode t = .idle

/-- 10_state R31, R32, R34, 41_tracker R163, 42_reducer R211, 30_encoding R91, R92: every step keeps the
invariant: the tracker's ranges, the counters' ranges and order, the reserved bits, the masked critical
section, the range of every event. That no poll reaches P_READ1 or an unused finish phase is the model's
reading (log 11). -/
def Obligations.StepKeepsInvariant : Prop :=
  ∀ s s' : State, Inv s → step s = .next s' → Inv s'

/-! ## Sampler driver, converter and clock -/

/-- 40_sampler R110–R112: when `INIT` is turned away, when it faults, and everything it writes; writing it
all again changes nothing. -/
def Obligations.InitConfiguresBlock : Prop :=
  decode 0x0100 = .ok .init ∧
  ∀ s : State,
    (s.hp ≠ .ready → exec .init s = .refused .notEnabled) ∧
    (s.hp = .ready → s.adie = true → exec .init s = .fault .initWhileEnabled) ∧
    (s.hp = .ready → s.adie = false →
      ∃ t, exec .init s = .next t ∧
        t = { s with
          runningMax := s.cfg.maxT, countdown := 0, clapCount := 0, lastClap := 0, processedClaps := 0,
          initialized := true, convRunning := true,
          admux := s.cfg.adcRef ++ (1#1 ++ (0#1 ++ s.cfg.adcChannel)),
          adcsrb := s.adcsrb &&& 0x40,
          adcsra := (if s.adif then 0xB0 else 0xA0) ||| s.cfg.psCode.setWidth 8 } ∧
        t.readAdcsra = (if s.adif then 0xF0 else 0xE0) ||| s.cfg.psCode.setWidth 8 ∧
        exec .init t = .next t)

/-- 40_sampler R113: `ENABLE` faults before `INIT`, sets ADIE, and clears a pending ADIF or not, as a free
draw says; the interrupt it leaves pending is enabled at once. -/
def Obligations.EnableSetsInterruptEnable : Prop :=
  decode 0x0200 = .ok .enable ∧
  ∀ s : State,
    (s.hp ≠ .ready → exec .enable s = .refused .notEnabled) ∧
    (s.hp = .ready → s.initialized = false → exec .enable s = .fault .enableBeforeInit) ∧
    (s.hp = .ready → s.initialized = true →
      ∃ (d : Bool) (t : State), exec .enable s = .next t ∧
        t = { s with
          adcsra := if d then (s.adcsra ||| 0x08) &&& 0xEF else s.adcsra ||| 0x08, draws := s.draws + 1 } ∧
        (t.adif = true → t.gie = true → ∃ u, exec .isr t = .next u))

/-- 40_sampler R114: `DISABLE` is safe in every state with the host at Ready; it clears ADIE, clears a
pending ADIF or not, and leaves the converter, the tracker and the accumulator as they were. -/
def Obligations.DisableClearsInterruptEnable : Prop :=
  decode 0x0300 = .ok .disable ∧
  ∀ s : State,
    (s.hp ≠ .ready → exec .disable s = .refused .notEnabled) ∧
    (s.hp = .ready →
      ∃ d : Bool, exec .disable s = .next { s with
        adcsra := if d then s.adcsra &&& 0xF7 &&& 0xEF else s.adcsra &&& 0xF7, draws := s.draws + 1 })

/-- 40_sampler R117, R118: `CONVERT v` completes exactly when the converter is on and running; it writes
ADCH, ADCL's free low bits, sets ADIF, and outside free-running mode stops the converter. -/
def Obligations.ConvertLatchesSample : Prop :=
  ∀ v : Byte,
    decode (0x10#8 ++ v) = .ok (.convert v) ∧
    ∀ s : State,
      (¬(s.aden = true ∧ s.convRunning = true) → exec (.convert v) s = .refused .notEnabled) ∧
      (s.aden = true → s.convRunning = true →
        ∃ low : BitVec 2, exec (.convert v) s = .next { s with
          adch := v, adcl := low ++ 0#6, adcsra := s.adcsra ||| 0x10,
          convRunning := s.adate && decide (s.adcsrb &&& 0x07 = 0), draws := s.draws + 1 })

/-- 40_sampler R119: a completion while ADIF is set overwrites ADCH; one interrupt services only the latest
sample, and there is no second one. -/
def Obligations.OverrunServicesLatestSample : Prop :=
  ∀ (s : State) (v1 v2 : Byte),
    s.aden = true → s.convRunning = true → s.freeRunning = true → s.adie = true → s.gie = true →
    ∃ t1 t2 u, exec (.convert v1) s = .next t1 ∧ exec (.convert v2) t1 = .next t2 ∧
      t2.adch = v2 ∧ t2.adif = true ∧ exec .isr t2 = .next u ∧
      u.runningMax = (trackerStep v2 s).runningMax ∧ u.countdown = (trackerStep v2 s).countdown ∧
      u.clapCount = (trackerStep v2 s).clapCount ∧ u.lastClap = (trackerStep v2 s).lastClap ∧
      exec .isr u = .refused .notEnabled

/-- 40_sampler R122: `ADVANCE k` in every state adds `k` to the clock mod 2^32 and changes nothing else;
`now_ms()` is the clock; and the premise `ClockMonotone` holds of every step. -/
def Obligations.AdvanceAddsMilliseconds : Prop :=
  (∀ s : State, ClockMonotone s) ∧
  ∀ k : Byte,
    decode (0x20#8 ++ k) = .ok (.advance k) ∧
    ∀ s : State,
      exec (.advance k) s =
        .next { s with envMs := BitVec.ofNat 32 ((s.envMs.toNat + k.toNat) % 2 ^ 32) } ∧
      nowMs s = s.envMs

/-- 40_sampler R115: while ADIE = 0 the converter still completes conversions and sets ADIF, no interrupt is
dispatched, and the tracker and the accumulator do not change. -/
def Obligations.DisabledInterruptHidesSamples : Prop :=
  ∀ s : State, s.adie = false →
    exec .isr s = .refused .notEnabled ∧
    ∀ v : Byte, s.aden = true → s.convRunning = true →
      ∃ t, exec (.convert v) s = .next t ∧
        t.adif = true ∧ t.adie = false ∧ t.runningMax = s.runningMax ∧ t.countdown = s.countdown ∧
        t.clapCount = s.clapCount ∧ t.lastClap = s.lastClap ∧ exec .isr t = .refused .notEnabled

/-! ## Derived constants -/

/-- 40_sampler R125–R127: under the selection the supported clocks are the seven of R125, each gives 104 µs,
and `E_RATE` never fails at one of them; 16 MHz is divided by 128, 1664 cycles a sample. That the selected
quotient is exact is read from R125 (log 9). -/
def Obligations.SelectedClockSamplesAt104us : Prop :=
  ∀ c : Config, c.prescaler = .selected →
    (c.passes .E_CLOCK = true ↔
      c.fCpu ∈ [250000, 500000, 1000000, 2000000, 4000000, 8000000, 16000000]) ∧
    (c.passes .E_CLOCK = true → c.cSample * 1000000 = 104 * c.fCpu ∧ c.passes .E_RATE = true) ∧
    (c.fCpu = 16000000 → c.adcPrescaler = 128 ∧ c.cSample = 1664 ∧ 3000 * c.cSample = 4992000)

/-- 40_sampler R124: no derived constant wraps in its u8 storage, and the ADPS code divides by the prescaler
(30_encoding R84). -/
def Obligations.ValidConstantsFit : Prop :=
  ∀ c : Config, ValidConfig c →
    c.debBase + (c.debHi + 1) = c.maxT.toNat ∧ c.debBaseByte.toNat = c.debBase ∧
    c.debCdByte.toNat = c.debCd ∧ c.peakTimeoutByte.toNat = c.peakTimeout ∧ c.peakDelta ≤ 255 ∧
    0 < c.maxT.toNat - c.minT.toNat ∧ divisionOf c.psCode = c.adcPrescaler

/-- 41_tracker R161, its time bound: DEB_SAMPLES sample periods are at most DEBOUNCE_MS, and one more is longer. -/
def Obligations.DebounceRoundsDown : Prop :=
  ∀ c : Config, ValidConfig c →
    c.debSamples * c.cSample * 1000 ≤ c.debounceMs * c.fCpu ∧
    c.debounceMs * c.fCpu < (c.debSamples + 1) * c.cSample * 1000

/-! ## The interrupt and the tracker -/

/-- 60_exceptions R231: the interrupt is dispatched exactly when it is pending, enabled and not masked. -/
def Obligations.IsrTakenExactlyWhenEnabled : Prop :=
  decode 0x1100 = .ok .isr ∧
  ∀ s : State,
    ((∃ t, exec .isr s = .next t) ↔ s.adif = true ∧ s.adie = true ∧ s.gie = true) ∧
    (¬(s.adif = true ∧ s.adie = true ∧ s.gie = true) → exec .isr s = .refused .notEnabled)

/-- 60_exceptions R232, R233, 40_sampler R120: entry clears ADIF, the body is the tracker step on ADCH, the
return unmasks, and nothing else changes; the next interrupt needs a new conversion. -/
def Obligations.IsrRunsTrackerAtomically : Prop :=
  ∀ s : State, s.adif = true → s.adie = true → s.gie = true →
    exec .isr s = .next { trackerStep s.adch s with adcsra := s.adcsra &&& 0xEF } ∧
    ∀ t, exec .isr s = .next t →
      t.adif = false ∧ t.gie = true ∧ t.hp = s.hp ∧ t.processedClaps = s.processedClaps ∧
      t.adch = s.adch ∧ t.adcl = s.adcl ∧ t.admux = s.admux ∧ t.adcsrb = s.adcsrb ∧
      t.convRunning = s.convRunning ∧ t.envMs = s.envMs ∧ t.events = s.events ∧ t.cfg = s.cfg ∧
      t.initialized = s.initialized ∧ t.tmpC1 = s.tmpC1 ∧ t.tmpC2 = s.tmpC2 ∧ t.tmpT = s.tmpT ∧
      t.tmpNow = s.tmpNow ∧ t.tmpS = s.tmpS ∧ t.tmpR = s.tmpR ∧ t.tmpG = s.tmpG ∧
      t.fault = s.fault ∧ t.refused = s.refused ∧ t.draws = s.draws ∧ t.schedule = s.schedule ∧
      exec .isr t = .refused .notEnabled ∧
      ∀ v u, exec (.convert v) t = .next u → ∃ w, exec .isr u = .next w

/-- 41_tracker R151, R152 (and R166, since `running_max` may stand above MAX_T): the interrupt in idle rises
or holds. -/
def Obligations.IsrInIdle : Prop :=
  ∀ s : State, s.adif = true → s.adie = true → s.gie = true →
    s.cfg.maxT.toNat ≤ s.runningMax.toNat → s.countdown = 0 →
    (s.runningMax.toNat ≤ s.adch.toNat →
      exec .isr s = .next { s with
        adcsra := s.adcsra &&& 0xEF, runningMax := s.adch, countdown := s.cfg.peakTimeoutByte }) ∧
    (s.adch.toNat < s.runningMax.toNat →
      exec .isr s = .next { s with adcsra := s.adcsra &&& 0xEF })

/-- 41_tracker R153–R156, R158: the interrupt while tracking refreshes the peak, detects a clap, or decays
and times out. -/
def Obligations.IsrWhileTracking : Prop :=
  ∀ s : State, s.adif = true → s.adie = true → s.gie = true →
    s.cfg.maxT.toNat ≤ s.runningMax.toNat → s.countdown ≠ 0 →
    let clap := s.adch.toNat ≤ s.cfg.minT.toNat ∧ s.cfg.peakDelta ≤ s.runningMax.toNat - s.adch.toNat
    (s.runningMax.toNat ≤ s.adch.toNat →
      exec .isr s = .next { s with
        adcsra := s.adcsra &&& 0xEF, runningMax := s.adch, countdown := s.cfg.peakTimeoutByte }) ∧
    (s.adch.toNat < s.runningMax.toNat → clap →
      exec .isr s = .next { s with
        adcsra := s.adcsra &&& 0xEF
        clapCount := if s.clapCount.toNat < 127 then s.clapCount + 1 else s.clapCount
        lastClap := s.envMs, runningMax := s.cfg.debBaseByte, countdown := s.cfg.debCdByte }) ∧
    (s.adch.toNat < s.runningMax.toNat → ¬clap →
      exec .isr s = .next { s with
        adcsra := s.adcsra &&& 0xEF, countdown := s.countdown - 1
        runningMax := if s.countdown = 1 then s.cfg.maxT else s.runningMax })

/-- 41_tracker R159, R160: the interrupt in debounce ignores the sample, counts down and climbs a stair; the
step that reaches MAX_T leaves the tracker idle. -/
def Obligations.IsrInDebounce : Prop :=
  ∀ s : State, s.adif = true → s.adie = true → s.gie = true →
    s.runningMax.toNat < s.cfg.maxT.toNat →
    ∃ t, exec .isr s = .next t ∧
      t = { s with
        adcsra := s.adcsra &&& 0xEF, countdown := s.countdown - 1
        runningMax := if s.countdown = 1 then s.runningMax + 1 else s.runningMax } ∧
      (t.runningMax = s.cfg.maxT → trackerMode t = .idle)

/-- 41_tracker R157, R161: a DETECT enters debounce with the values of R157, and then exactly
DEB_SAMPLES + 1 samples run a DEBOUNCE step whatever they are; none of them counts a clap, and after the last
the tracker is idle. -/
def Obligations.DebounceLastsDebSamplesPlusOne : Prop :=
  (∀ s : State, ValidConfig s.cfg →
    (detectClap s).runningMax = s.cfg.debBaseByte ∧ (detectClap s).countdown = s.cfg.debCdByte ∧
    s.cfg.debBaseByte.toNat = s.cfg.maxT.toNat - (s.cfg.debHi + 1) ∧
    s.cfg.debCdByte.toNat = (s.cfg.debLo + 1) % 256 ∧ trackerMode (detectClap s) = .debounce) ∧
  ∀ (s : State) (inputs : List Byte), ValidConfig s.cfg →
    s.runningMax = s.cfg.debBaseByte → s.countdown = s.cfg.debCdByte →
    inputs.length ≤ s.cfg.debSamples + 1 →
    let t := trackSamples inputs s
    t.clapCount = s.clapCount ∧ t.lastClap = s.lastClap ∧
    (inputs.length < s.cfg.debSamples + 1 → trackerMode t = .debounce) ∧
    (inputs.length = s.cfg.debSamples + 1 →
      t.runningMax = s.cfg.maxT ∧ t.countdown = 0 ∧ trackerMode t = .idle)

/-- 41_tracker R162: after a RISE or REFRESH, PEAK_TIMEOUT samples below the peak are tracked; the first of
them that meets R154 is a clap, and if none does the last returns the tracker to idle. -/
def Obligations.PeakTimeoutLastsItsSamples : Prop :=
  ∀ (s : State) (inputs : List Byte), ValidConfig s.cfg →
    s.cfg.maxT.toNat ≤ s.runningMax.toNat → s.countdown = s.cfg.peakTimeoutByte →
    (∀ x ∈ inputs, x.toNat < s.runningMax.toNat ∧ detects x s = false) →
    inputs.length ≤ s.cfg.peakTimeout →
    let t := trackSamples inputs s
    t.clapCount = s.clapCount ∧ t.lastClap = s.lastClap ∧
    (inputs.length < s.cfg.peakTimeout →
      trackerMode t = .tracking ∧ t.runningMax = s.runningMax ∧
      ∀ x : Byte, x.toNat < s.runningMax.toNat → detects x s = true →
        trackSamples (inputs ++ [x]) s = detectClap t) ∧
    (inputs.length = s.cfg.peakTimeout → t.runningMax = s.cfg.maxT ∧ trackerMode t = .idle)

/-- 41_tracker R165: samples that stay above MIN_T count no clap, from any tracker state. -/
def Obligations.SustainedSignalCountsNothing : Prop :=
  ∀ (inputs : List Byte) (s : State), (∀ x ∈ inputs, s.cfg.minT.toNat < x.toNat) →
    (trackSamples inputs s).clapCount = s.clapCount ∧ (trackSamples inputs s).lastClap = s.lastClap

/-- 41_tracker R164, 42_reducer R210: a program whose samples all stay below MAX_T, whatever else it does,
never emits anything but NoEvent; it may start at reset. -/
def Obligations.QuietProgramReportsOnlyNoEvent : Prop :=
  (∀ (c : Config) (ms : Dword), ValidConfig c → Quiet (State.resetWith c ms)) ∧
  ∀ (program : List Word) (s s' : State), ValidConfig s.cfg → Quiet s →
    program.all (quietWord s.cfg) = true → perform program s = .next s' →
    Quiet s' ∧ ∀ e ∈ s'.events, e = .noEvent

/-- 40_sampler R121, 70_reset R270: a program of `SAMPLE`s on an armed block runs to its end, meets
`NoOverrun`, and the tracker sees every sample in order. -/
def Obligations.SampledProgramTracksEverySample : Prop :=
  ∀ (inputs : List Byte) (s : State), ValidConfig s.cfg → Unmarked s →
    s.aden = true → s.convRunning = true → s.freeRunning = true → s.adie = true → s.gie = true →
    NoOverrun (inputs.flatMap sampleWords) s ∧
    ∃ t, perform (inputs.flatMap sampleWords) s = .next t ∧
      t.runningMax = (trackSamples inputs s).runningMax ∧ t.countdown = (trackSamples inputs s).countdown ∧
      t.clapCount = (trackSamples inputs s).clapCount ∧ t.lastClap = (trackSamples inputs s).lastClap ∧
      t.adie = true ∧ t.gie = true ∧ t.hp = s.hp ∧ t.events = s.events

/-- 70_reset R263, 30_encoding R95: the boot order arms the block: the interrupt enabled and unmasked, the
converter free-running, the tracker idle. -/
def Obligations.BootArmsSampler : Prop :=
  ∀ s : State, ValidConfig s.cfg → Unmarked s → s.hp = .ready → s.adie = false →
    ∃ t, performPseudo .boot s = .next t ∧ t.initialized = true ∧ t.aden = true ∧ t.convRunning = true ∧
      t.freeRunning = true ∧ t.adie = true ∧ t.gie = true ∧ t.hp = .ready ∧
      t.runningMax = s.cfg.maxT ∧ t.countdown = 0 ∧ t.clapCount = 0

/-- 30_encoding R95, 40_sampler R122: `WAIT k` advances the clock by `k` and changes nothing else. -/
def Obligations.WaitAdvancesClock : Prop :=
  ∀ (k : Nat) (s : State), ValidConfig s.cfg → Unmarked s →
    performPseudo (.wait k) s = .next { s with envMs := s.envMs + BitVec.ofNat 32 k }

/-- 70_reset R279, 40_sampler R122: under `RealTime` every word but an `ADVANCE` is performed with the clock
at its own elapsed milliseconds, the program ends with the clock at its own length, and n conversions take
n - 1 sample periods of that length. The rounding, and item 2 read at every word, are the model's choice (log 16). -/
def Obligations.RealTimeClockReadsElapsedTime : Prop :=
  ∀ (s : State) (program : List TimedWord), RealTime s.cfg program →
    (∀ (before after : List TimedWord) (tw : TimedWord) (m : State),
      program = before ++ tw :: after → isAdvance tw.word = false →
      perform (timedWords before) s = .next m →
        m.envMs = s.envMs + BitVec.ofNat 32 (elapsedMs s.cfg (startCycle program) tw.cycle)) ∧
    (∀ t : State, perform (timedWords program) s = .next t →
      t.envMs = s.envMs + BitVec.ofNat 32 (elapsedMs s.cfg (startCycle program) (endCycle program))) ∧
    ((timedWords program).countP (fun w => match decode w with
      | .ok (.convert _) => true
      | _ => false) - 1) * s.cfg.cSample ≤ endCycle program - startCycle program

/-- 60_exceptions R240: `SEI`. -/
def Obligations.SeiUnmasksInterrupt : Prop :=
  decode 0x0500 = .ok .sei ∧
  ∀ s : State,
    (s.hp ≠ .ready → exec .sei s = .refused .notEnabled) ∧
    (s.hp = .ready → exec .sei s = .next { s with gie := true }) ∧
    (s.hp = .ready → s.adif = true → s.adie = true →
      ∃ t u, exec .sei s = .next t ∧ exec .isr t = .next u)

/-- 60_exceptions R241: `CLI`; while it lasts the interrupt is refused and conversions still complete. -/
def Obligations.CliMasksInterrupt : Prop :=
  decode 0x0600 = .ok .cli ∧
  ∀ s : State,
    (s.hp ≠ .ready → exec .cli s = .refused .notEnabled) ∧
    (s.hp = .ready →
      exec .cli s = .next { s with gie := false } ∧
      exec .isr { s with gie := false } = .refused .notEnabled ∧
      (s.aden = true → s.convRunning = true →
        ∀ v, ∃ t, exec (.convert v) { s with gie := false } = .next t ∧ t.adif = true ∧ t.gie = false))

/-- 20_memory R70, 42_reducer R197: inside the critical section no interrupt is dispatched, and nothing but
the host's own micro-steps ends it or changes `last_clap`. -/
def Obligations.CriticalSectionExcludesInterrupt : Prop :=
  ∀ s : State, Inv s → (s.hp = .pCsRead ∨ s.hp = .pCsExit) →
    exec .isr s = .refused .notEnabled ∧
    ∀ (i : Instr) (t : State), exec i s = .next t →
      t.lastClap = s.lastClap ∧ (i ≠ .hstep → t.gie = false ∧ t.hp = s.hp)

/-! ## The reducer -/

/-- 42_reducer R191: `POLL` reads `clap_count` and goes to P_INPROG or P_READ2. -/
def Obligations.PollReadsClapCount : Prop :=
  decode 0x0400 = .ok .poll ∧
  ∀ s : State,
    (s.hp ≠ .ready → exec .poll s = .refused .notEnabled) ∧
    (s.hp = .ready → exec .poll s = .next { s with
      tmpC1 := s.clapCount
      hp := if s.clapCount.toNat > s.processedClaps.toNat then .pInprog else .pRead2 })

/-- 42_reducer R192: the second read; no clap at all is NoEvent. -/
def Obligations.SecondReadOrNoEvent : Prop :=
  decode 0x0700 = .ok .hstep ∧
  ∀ s : State, s.hp = .pRead2 →
    (s.clapCount ≠ 0 → exec .hstep s = .next { s with tmpC2 := s.clapCount, hp := .pCsEnter }) ∧
    (s.clapCount = 0 → exec .hstep s = .next { s with
      tmpC2 := 0, events := s.events ++ [.noEvent], hp := .ready })

/-- 42_reducer R193–R196: one report is counted; at 127 the overflow resets both counters. -/
def Obligations.InProgressOrOverflow : Prop :=
  ∀ s : State, s.hp = .pInprog →
    (s.processedClaps ≠ 126 → exec .hstep s = .next { s with
      processedClaps := s.processedClaps + 1
      events := s.events ++ [.seriesInProgress (s.processedClaps + 1)], hp := .ready }) ∧
    (s.processedClaps = 126 → exec .hstep s = .next { s with
      clapCount := 0, processedClaps := 0, events := s.events ++ [.overflow], hp := .ready }) ∧
    (Inv s → s.processedClaps = 126 → s.tmpC1 = 127)

/-- 42_reducer R197–R199: the critical section saves and masks, reads `last_clap` whole, and restores. -/
def Obligations.CriticalSectionMicroSteps : Prop :=
  ∀ s : State,
    (s.hp = .pCsEnter → exec .hstep s = .next { s with tmpG := s.gie, gie := false, hp := .pCsRead }) ∧
    (s.hp = .pCsRead → exec .hstep s = .next { s with tmpT := s.lastClap, hp := .pCsExit }) ∧
    (s.hp = .pCsExit → exec .hstep s = .next { s with gie := s.tmpG, hp := .pNow })

/-- 42_reducer R200, R201: the clock is read after `last_clap`; the comparison is strict, mod 2^32. -/
def Obligations.SeriesTimeoutComparison : Prop :=
  ∀ s : State,
    (s.hp = .pNow → exec .hstep s = .next { s with tmpNow := s.envMs, hp := .pCmp }) ∧
    (s.hp = .pCmp →
      (s.cfg.seriesTimeoutMs.toNat < (s.tmpNow.toNat + 2 ^ 32 - s.tmpT.toNat) % 2 ^ 32 →
        exec .hstep s = .next { s with hp := .pSnap }) ∧
      ((s.tmpNow.toNat + 2 ^ 32 - s.tmpT.toNat) % 2 ^ 32 ≤ s.cfg.seriesTimeoutMs.toNat →
        exec .hstep s = .next { s with events := s.events ++ [.noEvent], hp := .ready }))

/-- 42_reducer R202–R205: snapshot, read, write back, report, one micro-step each. -/
def Obligations.FinishMicroSteps : Prop :=
  ∀ s : State,
    (s.hp = .pSnap → s.cfg.atomicFinish = false →
      exec .hstep s = .next { s with tmpS := s.clapCount, hp := .pRmwRead }) ∧
    (s.hp = .pRmwRead → exec .hstep s = .next { s with tmpR := s.clapCount, hp := .pRmwWrite }) ∧
    (s.hp = .pRmwWrite →
      exec .hstep s = .next { s with clapCount := s.tmpR - s.processedClaps, hp := .pFinDone }) ∧
    (s.hp = .pFinDone → exec .hstep s = .next { s with
      processedClaps := 0, events := s.events ++ [.seriesFinished s.tmpS], hp := .ready })

/-- 42_reducer R206: the atomic fetch-and-subtract is one micro-step. -/
def Obligations.AtomicFinishMicroStep : Prop :=
  ∀ s : State, s.hp = .pSnap → s.cfg.atomicFinish = true →
    exec .hstep s = .next { s with
      tmpS := s.clapCount, clapCount := s.clapCount - s.processedClaps, processedClaps := 0
      events := s.events ++ [.seriesFinished s.clapCount], hp := .ready }

/-- 30_encoding R90: while a poll is in progress the host's only word is `HSTEP`; at Ready `HSTEP` has no
step. -/
def Obligations.HostWordsFollowPhase : Prop :=
  ∀ s : State,
    (s.hp ≠ .ready →
      (∀ i ∈ [Instr.init, .enable, .disable, .poll, .sei, .cli], exec i s = .refused .notEnabled) ∧
      ∃ t, exec .hstep s = .next t) ∧
    (s.hp = .ready → exec .hstep s = .refused .notEnabled)

/-- 42_reducer R207: a whole poll ends within 11 micro-steps with exactly one more event and the host at
Ready; `gie` is as it was (R197, R199). -/
def Obligations.WholePollEmitsOneEvent : Prop :=
  ∀ s : State, ValidConfig s.cfg → Unmarked s → s.hp = .ready →
    (expandPseudo .pollx s).length ≤ 11 ∧
    ∃ t e, wholePoll s = .next t ∧ t.hp = .ready ∧ t.events = s.events ++ [e] ∧ t.gie = s.gie

/-- 42_reducer R209: with nothing unreported and no timeout, a whole poll emits NoEvent and changes nothing
but the poll's own temporaries, so the next one does the same. -/
def Obligations.WholePollIsIdempotent : Prop :=
  ∀ s : State, ValidConfig s.cfg → Unmarked s → s.hp = .ready → s.clapCount = s.processedClaps →
    ¬timedOut s.cfg s.lastClap s.envMs →
    ∃ t, wholePoll s = .next t ∧
      clearTemps t = clearTemps { s with events := s.events ++ [.noEvent] } ∧
      ∃ u, wholePoll t = .next u ∧
        clearTemps u = clearTemps { s with events := s.events ++ [.noEvent, .noEvent] }

/-- 42_reducer R214, first and third item, one poll at a time: an unreported clap is the next number in
progress, and the 127th is the overflow. -/
def Obligations.WholePollReportsNextClap : Prop :=
  ∀ s : State, ValidConfig s.cfg → Unmarked s → s.hp = .ready →
    s.processedClaps.toNat < s.clapCount.toNat →
    (s.processedClaps ≠ 126 → ∃ t, wholePoll s = .next t ∧
      clearTemps t = clearTemps { s with
        processedClaps := s.processedClaps + 1
        events := s.events ++ [.seriesInProgress (s.processedClaps + 1)] }) ∧
    (s.processedClaps = 126 → ∃ t, wholePoll s = .next t ∧
      clearTemps t = clearTemps { s with
        processedClaps := 0, clapCount := 0, events := s.events ++ [.overflow] })

/-- 42_reducer R214, second item: a reported series that has timed out is finished with its count, under
either value of ATOMIC_FINISH, and the poll after it is NoEvent. -/
def Obligations.WholePollFinishesSeries : Prop :=
  ∀ s : State, ValidConfig s.cfg → Unmarked s → s.hp = .ready →
    s.clapCount = s.processedClaps → s.clapCount ≠ 0 → timedOut s.cfg s.lastClap s.envMs →
    ∃ t, wholePoll s = .next t ∧
      clearTemps t = clearTemps { s with
        clapCount := 0, processedClaps := 0, events := s.events ++ [.seriesFinished s.clapCount] } ∧
      ∃ u, wholePoll t = .next u ∧
        u.events = s.events ++ [.seriesFinished s.clapCount, .noEvent]

/-- 42_reducer R212: the interrupt that counts a clap inside a finishing poll, at every phase outside the
critical section, and what becomes of the clap: refreshed (1), reported and left in the count (2), left for
the next series (3), or overwritten (4); with what the next whole poll then reports. -/
def Obligations.FinishRaceOutcomes : Prop :=
  ∀ s : State, ValidConfig s.cfg → Unmarked s → s.cfg.atomicFinish = false → ClapPending s →
    (∃ v, exec .isr s = .next v ∧ v.clapCount = s.clapCount + 1 ∧ v.lastClap = s.envMs ∧ v.hp = s.hp) ∧
    (s.hp = .pCsEnter →
      ∃ u, clapThenSteps 5 s = .next u ∧ u.events = s.events ++ [.noEvent] ∧
        u.clapCount = s.clapCount + 1 ∧ u.processedClaps = s.processedClaps ∧
        (s.processedClaps.toNat ≤ s.clapCount.toNat → ∃ v, wholePoll u = .next v ∧
          v.events = u.events ++
            [if s.processedClaps = 126 then .overflow else .seriesInProgress (s.processedClaps + 1)])) ∧
    (∀ n : Nat,
      (s.hp = .pNow ∧ timedOut s.cfg s.tmpT s.envMs ∧ n = 6) ∨
        (s.hp = .pCmp ∧ timedOut s.cfg s.tmpT s.tmpNow ∧ n = 5) ∨ (s.hp = .pSnap ∧ n = 4) →
      ∃ u, clapThenSteps n s = .next u ∧ u.events = s.events ++ [.seriesFinished (s.clapCount + 1)] ∧
        u.clapCount = s.clapCount + 1 - s.processedClaps ∧ u.processedClaps = 0 ∧
        (s.processedClaps.toNat ≤ s.clapCount.toNat → ∃ v, wholePoll u = .next v ∧
          v.events = u.events ++ [.seriesInProgress 1])) ∧
    (s.hp = .pRmwRead →
      ∃ u, clapThenSteps 3 s = .next u ∧ u.events = s.events ++ [.seriesFinished s.tmpS] ∧
        u.clapCount = s.clapCount + 1 - s.processedClaps ∧ u.processedClaps = 0 ∧
        (s.processedClaps.toNat ≤ s.clapCount.toNat → ∃ v, wholePoll u = .next v ∧
          v.events = u.events ++ [.seriesInProgress 1])) ∧
    (s.hp = .pRmwWrite →
      ∃ u, clapThenSteps 2 s = .next u ∧ u.events = s.events ++ [.seriesFinished s.tmpS] ∧
        u.clapCount = s.tmpR - s.processedClaps ∧ u.processedClaps = 0 ∧ u.lastClap = s.envMs ∧
        (s.tmpR = s.processedClaps → ∃ v, wholePoll u = .next v ∧ v.events = u.events ++ [.noEvent]))

/-- 42_reducer R213: with ATOMIC_FINISH the count falls only in a step that reports the count it takes away
(or in `INIT`), so no clap is lost by the finish. -/
def Obligations.AtomicFinishLosesNoClap : Prop :=
  ∀ (s t : State) (i : Instr), Inv s → s.cfg.atomicFinish = true → exec i s = .next t → i ≠ .init →
    t.clapCount.toNat < s.clapCount.toNat →
    i = .hstep ∧
      ((t.events = s.events ++ [.seriesFinished s.clapCount] ∧
          t.clapCount.toNat + s.processedClaps.toNat = s.clapCount.toNat ∧ t.processedClaps = 0) ∨
        (t.events = s.events ++ [.overflow] ∧ s.clapCount = 127 ∧ s.processedClaps = 126))

/-- 30_encoding R92, R93: the signed byte of every event, and the one collision. -/
def Obligations.EventBytes : Prop :=
  Event.toInt8 .noEvent = 0x00 ∧ Event.toInt8 .overflow = 0x7F ∧
  (∀ n : Byte, 1 ≤ n.toNat → n.toNat ≤ 126 → (Event.toInt8 (.seriesInProgress n)).toInt = -(n.toNat : Int)) ∧
  (∀ n : Byte, 1 ≤ n.toNat → n.toNat ≤ 127 → (Event.toInt8 (.seriesFinished n)).toInt = (n.toNat : Int)) ∧
  ∀ a b : Event, eventInRange a = true → eventInRange b = true → a.toInt8 = b.toInt8 →
    a = b ∨ (a = .overflow ∧ b = .seriesFinished 127) ∨ (a = .seriesFinished 127 ∧ b = .overflow)

/-! ## Ownership, registers, temporaries -/

/-- 10_state R43: the output trace only grows, by one event, at a micro-step of the poll that returns the
host to Ready. -/
def Obligations.EventsOnlyAppended : Prop :=
  ∀ (i : Instr) (s t : State), exec i s = .next t →
    t.events = s.events ∨ (i = .hstep ∧ t.hp = .ready ∧ ∃ e, t.events = s.events ++ [e])

/-- 10_state R28–R30, R32–R39, R43, 20_memory R60, 60_exceptions R242: each piece of state is written by its
owners alone, the model's own schedule and draw counter among them (logs 1, 4). -/
def Obligations.OnlyOwnersWrite : Prop :=
  ∀ (i : Instr) (s t : State), exec i s = .next t →
    (i ≠ .init → i ≠ .isr →
      t.runningMax = s.runningMax ∧ t.countdown = s.countdown ∧ t.lastClap = s.lastClap) ∧
    (i ≠ .init → i ≠ .isr → i ≠ .hstep → t.clapCount = s.clapCount) ∧
    (i = .isr → t.clapCount = s.clapCount ∨ t.clapCount.toNat = s.clapCount.toNat + 1) ∧
    (i ≠ .init → i ≠ .hstep → t.processedClaps = s.processedClaps) ∧
    (i ≠ .init → t.admux = s.admux ∧ t.adcsrb = s.adcsrb ∧ t.initialized = s.initialized) ∧
    (i ∉ [Instr.init, .enable, .disable, .isr] → (∀ v, i ≠ .convert v) → t.adcsra = s.adcsra) ∧
    ((∀ v, i ≠ .convert v) → t.adch = s.adch ∧ t.adcl = s.adcl) ∧
    (i ≠ .init → (∀ v, i ≠ .convert v) → t.convRunning = s.convRunning) ∧
    ((∀ k, i ≠ .advance k) → t.envMs = s.envMs) ∧
    (i ≠ .sei → i ≠ .cli → i ≠ .hstep → t.gie = s.gie) ∧
    (i ≠ .poll → i ≠ .hstep →
      t.hp = s.hp ∧ t.tmpC1 = s.tmpC1 ∧ t.tmpC2 = s.tmpC2 ∧ t.tmpT = s.tmpT ∧ t.tmpNow = s.tmpNow ∧
      t.tmpS = s.tmpS ∧ t.tmpR = s.tmpR ∧ t.tmpG = s.tmpG) ∧
    (i ≠ .hstep → t.events = s.events) ∧
    (i ≠ .enable → i ≠ .disable → (∀ v, i ≠ .convert v) → t.draws = s.draws) ∧
    t.cfg = s.cfg ∧ t.fault = s.fault ∧ t.refused = s.refused ∧ t.schedule = s.schedule

/-- 10_state R36: the poll temporaries have no value outside their poll: two states that differ only in
temporaries that no later micro-step reads have steps that differ only so. -/
def Obligations.DeadTemporariesUnobservable : Prop :=
  ∀ a b : State, SameButDeadTemps a b →
    match step a, step b with
    | .next a', .next b' => SameButDeadTemps a' b'
    | .fault r, .fault q => r = q
    | .refused r, .refused q => r = q
    | _, _ => False

/-- 10_state R21–R27, 30_encoding R81; the operation is the model's own (log 14): what a host write of
each ADC register does: reserved bits stay 0, a 1 clears ADIF and a 0 leaves it, ADSC starts only
with ADEN, and ADEN = 0 stops the converter. -/
def Obligations.HostRegisterWrites : Prop :=
  ∀ (v : Byte) (s : State),
    hostWriteAt 0x7C 1 v s = .next { s with admux := v &&& 0xEF } ∧
    hostWriteAt 0x7B 1 v s = .next { s with adcsrb := v &&& 0x47 } ∧
    hostWriteAt 0x78 1 v s = .refused .readOnlyRegister ∧
    hostWriteAt 0x79 1 v s = .refused .readOnlyRegister ∧
    ∃ t, hostWriteAt 0x7A 1 v s = .next t ∧
      t = { s with adcsra := t.adcsra, convRunning := t.convRunning } ∧
      t.aden = v[7] ∧ t.adate = v[5] ∧ t.adie = v[3] ∧
      t.adps = v.extractLsb' 0 3 ∧
      (v[4] = true → t.adif = false) ∧ (v[4] = false → t.adif = s.adif) ∧
      (v[7] = false → t.convRunning = false) ∧
      (v[7] = true → v[6] = true → t.convRunning = true) ∧
      (v[7] = true → v[6] = false → t.convRunning = s.convRunning) ∧
      hostReadAt 0x7A 1 t = .ok (packAdcsra t.aden t.convRunning t.adate t.adif t.adie t.adps)

/-- 20_memory R61, R64, R65, R67: the register space by address, the refusal of every other access, and the
little-endian bytes of `last_clap`. -/
def Obligations.RegisterSpaceAndCells : Prop :=
  (∀ s : State,
    hostReadAt 0x78 1 s = .ok s.adcl ∧ hostReadAt 0x79 1 s = .ok s.adch ∧
    hostReadAt 0x7A 1 s = .ok s.readAdcsra ∧ hostReadAt 0x7B 1 s = .ok s.adcsrb ∧
    hostReadAt 0x7C 1 s = .ok s.admux) ∧
  (∀ (address size : Nat) (s : State), (size ≠ 1 ∨ address < 0x78 ∨ 0x7C < address) →
    hostReadAt address size s = .error .noSuchCell ∧
    ∀ v, hostWriteAt address size v s = .refused .noSuchCell) ∧
  ∀ (c : Cell) (s : State), (cellBytes c s).length = cellSize c ∧
    (c = .lastClap →
      ((cellBytes c s).zipIdx.map fun (b, k) => b.toNat * 256 ^ k).sum = s.lastClap.toNat)
end

