-- ==== Sys2Proof/Laws/State.lean ====
section
/-! SUPPORT. One lemma per field per named update of the state, so that no later proof unfolds an update. -/

namespace Sys2Proof.Machine

variable (s : State)

/-! ## setAdif -/

@[simp] theorem setAdif_cfg (b : Bool) : (setAdif b s).cfg = s.cfg := rfl
@[simp] theorem setAdif_admux (b : Bool) : (setAdif b s).admux = s.admux := rfl
@[simp] theorem setAdif_adcsra (b : Bool) : (setAdif b s).adcsra = setBit s.adcsra 4 b := rfl
@[simp] theorem setAdif_adcsrb (b : Bool) : (setAdif b s).adcsrb = s.adcsrb := rfl
@[simp] theorem setAdif_adch (b : Bool) : (setAdif b s).adch = s.adch := rfl
@[simp] theorem setAdif_adcl (b : Bool) : (setAdif b s).adcl = s.adcl := rfl
@[simp] theorem setAdif_convRunning (b : Bool) : (setAdif b s).convRunning = s.convRunning := rfl
@[simp] theorem setAdif_runningMax (b : Bool) : (setAdif b s).runningMax = s.runningMax := rfl
@[simp] theorem setAdif_countdown (b : Bool) : (setAdif b s).countdown = s.countdown := rfl
@[simp] theorem setAdif_clapCount (b : Bool) : (setAdif b s).clapCount = s.clapCount := rfl
@[simp] theorem setAdif_lastClap (b : Bool) : (setAdif b s).lastClap = s.lastClap := rfl
@[simp] theorem setAdif_processedClaps (b : Bool) : (setAdif b s).processedClaps = s.processedClaps := rfl
@[simp] theorem setAdif_hp (b : Bool) : (setAdif b s).hp = s.hp := rfl
@[simp] theorem setAdif_tmpC1 (b : Bool) : (setAdif b s).tmpC1 = s.tmpC1 := rfl
@[simp] theorem setAdif_tmpC2 (b : Bool) : (setAdif b s).tmpC2 = s.tmpC2 := rfl
@[simp] theorem setAdif_tmpT (b : Bool) : (setAdif b s).tmpT = s.tmpT := rfl
@[simp] theorem setAdif_tmpNow (b : Bool) : (setAdif b s).tmpNow = s.tmpNow := rfl
@[simp] theorem setAdif_tmpS (b : Bool) : (setAdif b s).tmpS = s.tmpS := rfl
@[simp] theorem setAdif_tmpR (b : Bool) : (setAdif b s).tmpR = s.tmpR := rfl
@[simp] theorem setAdif_tmpG (b : Bool) : (setAdif b s).tmpG = s.tmpG := rfl
@[simp] theorem setAdif_gie (b : Bool) : (setAdif b s).gie = s.gie := rfl
@[simp] theorem setAdif_initialized (b : Bool) : (setAdif b s).initialized = s.initialized := rfl
@[simp] theorem setAdif_envMs (b : Bool) : (setAdif b s).envMs = s.envMs := rfl
@[simp] theorem setAdif_fault (b : Bool) : (setAdif b s).fault = s.fault := rfl
@[simp] theorem setAdif_refused (b : Bool) : (setAdif b s).refused = s.refused := rfl
@[simp] theorem setAdif_events (b : Bool) : (setAdif b s).events = s.events := rfl
@[simp] theorem setAdif_schedule (b : Bool) : (setAdif b s).schedule = s.schedule := rfl
@[simp] theorem setAdif_draws (b : Bool) : (setAdif b s).draws = s.draws := rfl

/-! ## setAdie -/

@[simp] theorem setAdie_cfg (b : Bool) : (setAdie b s).cfg = s.cfg := rfl
@[simp] theorem setAdie_admux (b : Bool) : (setAdie b s).admux = s.admux := rfl
@[simp] theorem setAdie_adcsra (b : Bool) : (setAdie b s).adcsra = setBit s.adcsra 3 b := rfl
@[simp] theorem setAdie_adcsrb (b : Bool) : (setAdie b s).adcsrb = s.adcsrb := rfl
@[simp] theorem setAdie_adch (b : Bool) : (setAdie b s).adch = s.adch := rfl
@[simp] theorem setAdie_adcl (b : Bool) : (setAdie b s).adcl = s.adcl := rfl
@[simp] theorem setAdie_convRunning (b : Bool) : (setAdie b s).convRunning = s.convRunning := rfl
@[simp] theorem setAdie_runningMax (b : Bool) : (setAdie b s).runningMax = s.runningMax := rfl
@[simp] theorem setAdie_countdown (b : Bool) : (setAdie b s).countdown = s.countdown := rfl
@[simp] theorem setAdie_clapCount (b : Bool) : (setAdie b s).clapCount = s.clapCount := rfl
@[simp] theorem setAdie_lastClap (b : Bool) : (setAdie b s).lastClap = s.lastClap := rfl
@[simp] theorem setAdie_processedClaps (b : Bool) : (setAdie b s).processedClaps = s.processedClaps := rfl
@[simp] theorem setAdie_hp (b : Bool) : (setAdie b s).hp = s.hp := rfl
@[simp] theorem setAdie_tmpC1 (b : Bool) : (setAdie b s).tmpC1 = s.tmpC1 := rfl
@[simp] theorem setAdie_tmpC2 (b : Bool) : (setAdie b s).tmpC2 = s.tmpC2 := rfl
@[simp] theorem setAdie_tmpT (b : Bool) : (setAdie b s).tmpT = s.tmpT := rfl
@[simp] theorem setAdie_tmpNow (b : Bool) : (setAdie b s).tmpNow = s.tmpNow := rfl
@[simp] theorem setAdie_tmpS (b : Bool) : (setAdie b s).tmpS = s.tmpS := rfl
@[simp] theorem setAdie_tmpR (b : Bool) : (setAdie b s).tmpR = s.tmpR := rfl
@[simp] theorem setAdie_tmpG (b : Bool) : (setAdie b s).tmpG = s.tmpG := rfl
@[simp] theorem setAdie_gie (b : Bool) : (setAdie b s).gie = s.gie := rfl
@[simp] theorem setAdie_initialized (b : Bool) : (setAdie b s).initialized = s.initialized := rfl
@[simp] theorem setAdie_envMs (b : Bool) : (setAdie b s).envMs = s.envMs := rfl
@[simp] theorem setAdie_fault (b : Bool) : (setAdie b s).fault = s.fault := rfl
@[simp] theorem setAdie_refused (b : Bool) : (setAdie b s).refused = s.refused := rfl
@[simp] theorem setAdie_events (b : Bool) : (setAdie b s).events = s.events := rfl
@[simp] theorem setAdie_schedule (b : Bool) : (setAdie b s).schedule = s.schedule := rfl
@[simp] theorem setAdie_draws (b : Bool) : (setAdie b s).draws = s.draws := rfl

/-! ## countDraw -/

@[simp] theorem countDraw_cfg : (countDraw s).cfg = s.cfg := rfl
@[simp] theorem countDraw_admux : (countDraw s).admux = s.admux := rfl
@[simp] theorem countDraw_adcsra : (countDraw s).adcsra = s.adcsra := rfl
@[simp] theorem countDraw_adcsrb : (countDraw s).adcsrb = s.adcsrb := rfl
@[simp] theorem countDraw_adch : (countDraw s).adch = s.adch := rfl
@[simp] theorem countDraw_adcl : (countDraw s).adcl = s.adcl := rfl
@[simp] theorem countDraw_convRunning : (countDraw s).convRunning = s.convRunning := rfl
@[simp] theorem countDraw_runningMax : (countDraw s).runningMax = s.runningMax := rfl
@[simp] theorem countDraw_countdown : (countDraw s).countdown = s.countdown := rfl
@[simp] theorem countDraw_clapCount : (countDraw s).clapCount = s.clapCount := rfl
@[simp] theorem countDraw_lastClap : (countDraw s).lastClap = s.lastClap := rfl
@[simp] theorem countDraw_processedClaps : (countDraw s).processedClaps = s.processedClaps := rfl
@[simp] theorem countDraw_hp : (countDraw s).hp = s.hp := rfl
@[simp] theorem countDraw_tmpC1 : (countDraw s).tmpC1 = s.tmpC1 := rfl
@[simp] theorem countDraw_tmpC2 : (countDraw s).tmpC2 = s.tmpC2 := rfl
@[simp] theorem countDraw_tmpT : (countDraw s).tmpT = s.tmpT := rfl
@[simp] theorem countDraw_tmpNow : (countDraw s).tmpNow = s.tmpNow := rfl
@[simp] theorem countDraw_tmpS : (countDraw s).tmpS = s.tmpS := rfl
@[simp] theorem countDraw_tmpR : (countDraw s).tmpR = s.tmpR := rfl
@[simp] theorem countDraw_tmpG : (countDraw s).tmpG = s.tmpG := rfl
@[simp] theorem countDraw_gie : (countDraw s).gie = s.gie := rfl
@[simp] theorem countDraw_initialized : (countDraw s).initialized = s.initialized := rfl
@[simp] theorem countDraw_envMs : (countDraw s).envMs = s.envMs := rfl
@[simp] theorem countDraw_fault : (countDraw s).fault = s.fault := rfl
@[simp] theorem countDraw_refused : (countDraw s).refused = s.refused := rfl
@[simp] theorem countDraw_events : (countDraw s).events = s.events := rfl
@[simp] theorem countDraw_schedule : (countDraw s).schedule = s.schedule := rfl
@[simp] theorem countDraw_draws : (countDraw s).draws = s.draws + 1 := rfl

/-! ## emit -/

@[simp] theorem emit_cfg (e : Event) : (emit e s).cfg = s.cfg := rfl
@[simp] theorem emit_admux (e : Event) : (emit e s).admux = s.admux := rfl
@[simp] theorem emit_adcsra (e : Event) : (emit e s).adcsra = s.adcsra := rfl
@[simp] theorem emit_adcsrb (e : Event) : (emit e s).adcsrb = s.adcsrb := rfl
@[simp] theorem emit_adch (e : Event) : (emit e s).adch = s.adch := rfl
@[simp] theorem emit_adcl (e : Event) : (emit e s).adcl = s.adcl := rfl
@[simp] theorem emit_convRunning (e : Event) : (emit e s).convRunning = s.convRunning := rfl
@[simp] theorem emit_runningMax (e : Event) : (emit e s).runningMax = s.runningMax := rfl
@[simp] theorem emit_countdown (e : Event) : (emit e s).countdown = s.countdown := rfl
@[simp] theorem emit_clapCount (e : Event) : (emit e s).clapCount = s.clapCount := rfl
@[simp] theorem emit_lastClap (e : Event) : (emit e s).lastClap = s.lastClap := rfl
@[simp] theorem emit_processedClaps (e : Event) : (emit e s).processedClaps = s.processedClaps := rfl
@[simp] theorem emit_hp (e : Event) : (emit e s).hp = .ready := rfl
@[simp] theorem emit_tmpC1 (e : Event) : (emit e s).tmpC1 = s.tmpC1 := rfl
@[simp] theorem emit_tmpC2 (e : Event) : (emit e s).tmpC2 = s.tmpC2 := rfl
@[simp] theorem emit_tmpT (e : Event) : (emit e s).tmpT = s.tmpT := rfl
@[simp] theorem emit_tmpNow (e : Event) : (emit e s).tmpNow = s.tmpNow := rfl
@[simp] theorem emit_tmpS (e : Event) : (emit e s).tmpS = s.tmpS := rfl
@[simp] theorem emit_tmpR (e : Event) : (emit e s).tmpR = s.tmpR := rfl
@[simp] theorem emit_tmpG (e : Event) : (emit e s).tmpG = s.tmpG := rfl
@[simp] theorem emit_gie (e : Event) : (emit e s).gie = s.gie := rfl
@[simp] theorem emit_initialized (e : Event) : (emit e s).initialized = s.initialized := rfl
@[simp] theorem emit_envMs (e : Event) : (emit e s).envMs = s.envMs := rfl
@[simp] theorem emit_fault (e : Event) : (emit e s).fault = s.fault := rfl
@[simp] theorem emit_refused (e : Event) : (emit e s).refused = s.refused := rfl
@[simp] theorem emit_events (e : Event) : (emit e s).events = s.events ++ [e] := rfl
@[simp] theorem emit_schedule (e : Event) : (emit e s).schedule = s.schedule := rfl
@[simp] theorem emit_draws (e : Event) : (emit e s).draws = s.draws := rfl

/-! ## interruptEnter -/

@[simp] theorem interruptEnter_cfg : (interruptEnter s).cfg = s.cfg := rfl
@[simp] theorem interruptEnter_admux : (interruptEnter s).admux = s.admux := rfl
@[simp] theorem interruptEnter_adcsra : (interruptEnter s).adcsra = setBit s.adcsra 4 false := rfl
@[simp] theorem interruptEnter_adcsrb : (interruptEnter s).adcsrb = s.adcsrb := rfl
@[simp] theorem interruptEnter_adch : (interruptEnter s).adch = s.adch := rfl
@[simp] theorem interruptEnter_adcl : (interruptEnter s).adcl = s.adcl := rfl
@[simp] theorem interruptEnter_convRunning : (interruptEnter s).convRunning = s.convRunning := rfl
@[simp] theorem interruptEnter_runningMax : (interruptEnter s).runningMax = s.runningMax := rfl
@[simp] theorem interruptEnter_countdown : (interruptEnter s).countdown = s.countdown := rfl
@[simp] theorem interruptEnter_clapCount : (interruptEnter s).clapCount = s.clapCount := rfl
@[simp] theorem interruptEnter_lastClap : (interruptEnter s).lastClap = s.lastClap := rfl
@[simp] theorem interruptEnter_processedClaps : (interruptEnter s).processedClaps = s.processedClaps := rfl
@[simp] theorem interruptEnter_hp : (interruptEnter s).hp = s.hp := rfl
@[simp] theorem interruptEnter_tmpC1 : (interruptEnter s).tmpC1 = s.tmpC1 := rfl
@[simp] theorem interruptEnter_tmpC2 : (interruptEnter s).tmpC2 = s.tmpC2 := rfl
@[simp] theorem interruptEnter_tmpT : (interruptEnter s).tmpT = s.tmpT := rfl
@[simp] theorem interruptEnter_tmpNow : (interruptEnter s).tmpNow = s.tmpNow := rfl
@[simp] theorem interruptEnter_tmpS : (interruptEnter s).tmpS = s.tmpS := rfl
@[simp] theorem interruptEnter_tmpR : (interruptEnter s).tmpR = s.tmpR := rfl
@[simp] theorem interruptEnter_tmpG : (interruptEnter s).tmpG = s.tmpG := rfl
@[simp] theorem interruptEnter_gie : (interruptEnter s).gie = false := rfl
@[simp] theorem interruptEnter_initialized : (interruptEnter s).initialized = s.initialized := rfl
@[simp] theorem interruptEnter_envMs : (interruptEnter s).envMs = s.envMs := rfl
@[simp] theorem interruptEnter_fault : (interruptEnter s).fault = s.fault := rfl
@[simp] theorem interruptEnter_refused : (interruptEnter s).refused = s.refused := rfl
@[simp] theorem interruptEnter_events : (interruptEnter s).events = s.events := rfl
@[simp] theorem interruptEnter_schedule : (interruptEnter s).schedule = s.schedule := rfl
@[simp] theorem interruptEnter_draws : (interruptEnter s).draws = s.draws := rfl

/-! ## interruptReturn -/

@[simp] theorem interruptReturn_cfg : (interruptReturn s).cfg = s.cfg := rfl
@[simp] theorem interruptReturn_admux : (interruptReturn s).admux = s.admux := rfl
@[simp] theorem interruptReturn_adcsra : (interruptReturn s).adcsra = s.adcsra := rfl
@[simp] theorem interruptReturn_adcsrb : (interruptReturn s).adcsrb = s.adcsrb := rfl
@[simp] theorem interruptReturn_adch : (interruptReturn s).adch = s.adch := rfl
@[simp] theorem interruptReturn_adcl : (interruptReturn s).adcl = s.adcl := rfl
@[simp] theorem interruptReturn_convRunning : (interruptReturn s).convRunning = s.convRunning := rfl
@[simp] theorem interruptReturn_runningMax : (interruptReturn s).runningMax = s.runningMax := rfl
@[simp] theorem interruptReturn_countdown : (interruptReturn s).countdown = s.countdown := rfl
@[simp] theorem interruptReturn_clapCount : (interruptReturn s).clapCount = s.clapCount := rfl
@[simp] theorem interruptReturn_lastClap : (interruptReturn s).lastClap = s.lastClap := rfl
@[simp] theorem interruptReturn_processedClaps : (interruptReturn s).processedClaps = s.processedClaps := rfl
@[simp] theorem interruptReturn_hp : (interruptReturn s).hp = s.hp := rfl
@[simp] theorem interruptReturn_tmpC1 : (interruptReturn s).tmpC1 = s.tmpC1 := rfl
@[simp] theorem interruptReturn_tmpC2 : (interruptReturn s).tmpC2 = s.tmpC2 := rfl
@[simp] theorem interruptReturn_tmpT : (interruptReturn s).tmpT = s.tmpT := rfl
@[simp] theorem interruptReturn_tmpNow : (interruptReturn s).tmpNow = s.tmpNow := rfl
@[simp] theorem interruptReturn_tmpS : (interruptReturn s).tmpS = s.tmpS := rfl
@[simp] theorem interruptReturn_tmpR : (interruptReturn s).tmpR = s.tmpR := rfl
@[simp] theorem interruptReturn_tmpG : (interruptReturn s).tmpG = s.tmpG := rfl
@[simp] theorem interruptReturn_gie : (interruptReturn s).gie = true := rfl
@[simp] theorem interruptReturn_initialized : (interruptReturn s).initialized = s.initialized := rfl
@[simp] theorem interruptReturn_envMs : (interruptReturn s).envMs = s.envMs := rfl
@[simp] theorem interruptReturn_fault : (interruptReturn s).fault = s.fault := rfl
@[simp] theorem interruptReturn_refused : (interruptReturn s).refused = s.refused := rfl
@[simp] theorem interruptReturn_events : (interruptReturn s).events = s.events := rfl
@[simp] theorem interruptReturn_schedule : (interruptReturn s).schedule = s.schedule := rfl
@[simp] theorem interruptReturn_draws : (interruptReturn s).draws = s.draws := rfl

/-! ## criticalEnter -/

@[simp] theorem criticalEnter_cfg : (criticalEnter s).cfg = s.cfg := rfl
@[simp] theorem criticalEnter_admux : (criticalEnter s).admux = s.admux := rfl
@[simp] theorem criticalEnter_adcsra : (criticalEnter s).adcsra = s.adcsra := rfl
@[simp] theorem criticalEnter_adcsrb : (criticalEnter s).adcsrb = s.adcsrb := rfl
@[simp] theorem criticalEnter_adch : (criticalEnter s).adch = s.adch := rfl
@[simp] theorem criticalEnter_adcl : (criticalEnter s).adcl = s.adcl := rfl
@[simp] theorem criticalEnter_convRunning : (criticalEnter s).convRunning = s.convRunning := rfl
@[simp] theorem criticalEnter_runningMax : (criticalEnter s).runningMax = s.runningMax := rfl
@[simp] theorem criticalEnter_countdown : (criticalEnter s).countdown = s.countdown := rfl
@[simp] theorem criticalEnter_clapCount : (criticalEnter s).clapCount = s.clapCount := rfl
@[simp] theorem criticalEnter_lastClap : (criticalEnter s).lastClap = s.lastClap := rfl
@[simp] theorem criticalEnter_processedClaps : (criticalEnter s).processedClaps = s.processedClaps := rfl
@[simp] theorem criticalEnter_hp : (criticalEnter s).hp = s.hp := rfl
@[simp] theorem criticalEnter_tmpC1 : (criticalEnter s).tmpC1 = s.tmpC1 := rfl
@[simp] theorem criticalEnter_tmpC2 : (criticalEnter s).tmpC2 = s.tmpC2 := rfl
@[simp] theorem criticalEnter_tmpT : (criticalEnter s).tmpT = s.tmpT := rfl
@[simp] theorem criticalEnter_tmpNow : (criticalEnter s).tmpNow = s.tmpNow := rfl
@[simp] theorem criticalEnter_tmpS : (criticalEnter s).tmpS = s.tmpS := rfl
@[simp] theorem criticalEnter_tmpR : (criticalEnter s).tmpR = s.tmpR := rfl
@[simp] theorem criticalEnter_tmpG : (criticalEnter s).tmpG = s.gie := rfl
@[simp] theorem criticalEnter_gie : (criticalEnter s).gie = false := rfl
@[simp] theorem criticalEnter_initialized : (criticalEnter s).initialized = s.initialized := rfl
@[simp] theorem criticalEnter_envMs : (criticalEnter s).envMs = s.envMs := rfl
@[simp] theorem criticalEnter_fault : (criticalEnter s).fault = s.fault := rfl
@[simp] theorem criticalEnter_refused : (criticalEnter s).refused = s.refused := rfl
@[simp] theorem criticalEnter_events : (criticalEnter s).events = s.events := rfl
@[simp] theorem criticalEnter_schedule : (criticalEnter s).schedule = s.schedule := rfl
@[simp] theorem criticalEnter_draws : (criticalEnter s).draws = s.draws := rfl

/-! ## criticalExit -/

@[simp] theorem criticalExit_cfg : (criticalExit s).cfg = s.cfg := rfl
@[simp] theorem criticalExit_admux : (criticalExit s).admux = s.admux := rfl
@[simp] theorem criticalExit_adcsra : (criticalExit s).adcsra = s.adcsra := rfl
@[simp] theorem criticalExit_adcsrb : (criticalExit s).adcsrb = s.adcsrb := rfl
@[simp] theorem criticalExit_adch : (criticalExit s).adch = s.adch := rfl
@[simp] theorem criticalExit_adcl : (criticalExit s).adcl = s.adcl := rfl
@[simp] theorem criticalExit_convRunning : (criticalExit s).convRunning = s.convRunning := rfl
@[simp] theorem criticalExit_runningMax : (criticalExit s).runningMax = s.runningMax := rfl
@[simp] theorem criticalExit_countdown : (criticalExit s).countdown = s.countdown := rfl
@[simp] theorem criticalExit_clapCount : (criticalExit s).clapCount = s.clapCount := rfl
@[simp] theorem criticalExit_lastClap : (criticalExit s).lastClap = s.lastClap := rfl
@[simp] theorem criticalExit_processedClaps : (criticalExit s).processedClaps = s.processedClaps := rfl
@[simp] theorem criticalExit_hp : (criticalExit s).hp = s.hp := rfl
@[simp] theorem criticalExit_tmpC1 : (criticalExit s).tmpC1 = s.tmpC1 := rfl
@[simp] theorem criticalExit_tmpC2 : (criticalExit s).tmpC2 = s.tmpC2 := rfl
@[simp] theorem criticalExit_tmpT : (criticalExit s).tmpT = s.tmpT := rfl
@[simp] theorem criticalExit_tmpNow : (criticalExit s).tmpNow = s.tmpNow := rfl
@[simp] theorem criticalExit_tmpS : (criticalExit s).tmpS = s.tmpS := rfl
@[simp] theorem criticalExit_tmpR : (criticalExit s).tmpR = s.tmpR := rfl
@[simp] theorem criticalExit_tmpG : (criticalExit s).tmpG = s.tmpG := rfl
@[simp] theorem criticalExit_gie : (criticalExit s).gie = s.tmpG := rfl
@[simp] theorem criticalExit_initialized : (criticalExit s).initialized = s.initialized := rfl
@[simp] theorem criticalExit_envMs : (criticalExit s).envMs = s.envMs := rfl
@[simp] theorem criticalExit_fault : (criticalExit s).fault = s.fault := rfl
@[simp] theorem criticalExit_refused : (criticalExit s).refused = s.refused := rfl
@[simp] theorem criticalExit_events : (criticalExit s).events = s.events := rfl
@[simp] theorem criticalExit_schedule : (criticalExit s).schedule = s.schedule := rfl
@[simp] theorem criticalExit_draws : (criticalExit s).draws = s.draws := rfl

/-! ## memWrite4 -/

@[simp] theorem memWrite4_cfg (v : Dword) : (memWrite4 v s).cfg = s.cfg := rfl
@[simp] theorem memWrite4_admux (v : Dword) : (memWrite4 v s).admux = s.admux := rfl
@[simp] theorem memWrite4_adcsra (v : Dword) : (memWrite4 v s).adcsra = s.adcsra := rfl
@[simp] theorem memWrite4_adcsrb (v : Dword) : (memWrite4 v s).adcsrb = s.adcsrb := rfl
@[simp] theorem memWrite4_adch (v : Dword) : (memWrite4 v s).adch = s.adch := rfl
@[simp] theorem memWrite4_adcl (v : Dword) : (memWrite4 v s).adcl = s.adcl := rfl
@[simp] theorem memWrite4_convRunning (v : Dword) : (memWrite4 v s).convRunning = s.convRunning := rfl
@[simp] theorem memWrite4_runningMax (v : Dword) : (memWrite4 v s).runningMax = s.runningMax := rfl
@[simp] theorem memWrite4_countdown (v : Dword) : (memWrite4 v s).countdown = s.countdown := rfl
@[simp] theorem memWrite4_clapCount (v : Dword) : (memWrite4 v s).clapCount = s.clapCount := rfl
@[simp] theorem memWrite4_lastClap (v : Dword) : (memWrite4 v s).lastClap = v := rfl
@[simp] theorem memWrite4_processedClaps (v : Dword) : (memWrite4 v s).processedClaps = s.processedClaps := rfl
@[simp] theorem memWrite4_hp (v : Dword) : (memWrite4 v s).hp = s.hp := rfl
@[simp] theorem memWrite4_tmpC1 (v : Dword) : (memWrite4 v s).tmpC1 = s.tmpC1 := rfl
@[simp] theorem memWrite4_tmpC2 (v : Dword) : (memWrite4 v s).tmpC2 = s.tmpC2 := rfl
@[simp] theorem memWrite4_tmpT (v : Dword) : (memWrite4 v s).tmpT = s.tmpT := rfl
@[simp] theorem memWrite4_tmpNow (v : Dword) : (memWrite4 v s).tmpNow = s.tmpNow := rfl
@[simp] theorem memWrite4_tmpS (v : Dword) : (memWrite4 v s).tmpS = s.tmpS := rfl
@[simp] theorem memWrite4_tmpR (v : Dword) : (memWrite4 v s).tmpR = s.tmpR := rfl
@[simp] theorem memWrite4_tmpG (v : Dword) : (memWrite4 v s).tmpG = s.tmpG := rfl
@[simp] theorem memWrite4_gie (v : Dword) : (memWrite4 v s).gie = s.gie := rfl
@[simp] theorem memWrite4_initialized (v : Dword) : (memWrite4 v s).initialized = s.initialized := rfl
@[simp] theorem memWrite4_envMs (v : Dword) : (memWrite4 v s).envMs = s.envMs := rfl
@[simp] theorem memWrite4_fault (v : Dword) : (memWrite4 v s).fault = s.fault := rfl
@[simp] theorem memWrite4_refused (v : Dword) : (memWrite4 v s).refused = s.refused := rfl
@[simp] theorem memWrite4_events (v : Dword) : (memWrite4 v s).events = s.events := rfl
@[simp] theorem memWrite4_schedule (v : Dword) : (memWrite4 v s).schedule = s.schedule := rfl
@[simp] theorem memWrite4_draws (v : Dword) : (memWrite4 v s).draws = s.draws := rfl

/-! ## initCells -/

@[simp] theorem initCells_cfg : (initCells s).cfg = s.cfg := rfl
@[simp] theorem initCells_admux : (initCells s).admux = s.admux := rfl
@[simp] theorem initCells_adcsra : (initCells s).adcsra = s.adcsra := rfl
@[simp] theorem initCells_adcsrb : (initCells s).adcsrb = s.adcsrb := rfl
@[simp] theorem initCells_adch : (initCells s).adch = s.adch := rfl
@[simp] theorem initCells_adcl : (initCells s).adcl = s.adcl := rfl
@[simp] theorem initCells_convRunning : (initCells s).convRunning = s.convRunning := rfl
@[simp] theorem initCells_runningMax : (initCells s).runningMax = s.cfg.maxT := rfl
@[simp] theorem initCells_countdown : (initCells s).countdown = 0 := rfl
@[simp] theorem initCells_clapCount : (initCells s).clapCount = 0 := rfl
@[simp] theorem initCells_lastClap : (initCells s).lastClap = 0 := rfl
@[simp] theorem initCells_processedClaps : (initCells s).processedClaps = 0 := rfl
@[simp] theorem initCells_hp : (initCells s).hp = s.hp := rfl
@[simp] theorem initCells_tmpC1 : (initCells s).tmpC1 = s.tmpC1 := rfl
@[simp] theorem initCells_tmpC2 : (initCells s).tmpC2 = s.tmpC2 := rfl
@[simp] theorem initCells_tmpT : (initCells s).tmpT = s.tmpT := rfl
@[simp] theorem initCells_tmpNow : (initCells s).tmpNow = s.tmpNow := rfl
@[simp] theorem initCells_tmpS : (initCells s).tmpS = s.tmpS := rfl
@[simp] theorem initCells_tmpR : (initCells s).tmpR = s.tmpR := rfl
@[simp] theorem initCells_tmpG : (initCells s).tmpG = s.tmpG := rfl
@[simp] theorem initCells_gie : (initCells s).gie = s.gie := rfl
@[simp] theorem initCells_initialized : (initCells s).initialized = true := rfl
@[simp] theorem initCells_envMs : (initCells s).envMs = s.envMs := rfl
@[simp] theorem initCells_fault : (initCells s).fault = s.fault := rfl
@[simp] theorem initCells_refused : (initCells s).refused = s.refused := rfl
@[simp] theorem initCells_events : (initCells s).events = s.events := rfl
@[simp] theorem initCells_schedule : (initCells s).schedule = s.schedule := rfl
@[simp] theorem initCells_draws : (initCells s).draws = s.draws := rfl

end Sys2Proof.Machine
end

