-- ==== Sys2Proof/Laws/Ops.lean ====
section
/-! SUPPORT. What the shared operations do, said once: the bits of a byte, the flags, the cells, the enabling conditions, the marks, the step. -/

namespace Sys2Proof.Machine

/-! ## Bits -/

theorem getElem_setBit (v : Byte) (b : Bool) {k j : Nat} (hj : j < 8) :
    (setBit v k b)[j] = if j = k then b else v[j] := by
  by_cases h : j = k <;> cases b <;> simp [setBit, h]

theorem setBit_four_false (v : Byte) : setBit v 4 false = v &&& 0xEF := rfl
theorem setBit_four_true (v : Byte) : setBit v 4 true = v ||| 0x10 := rfl
theorem setBit_three_false (v : Byte) : setBit v 3 false = v &&& 0xF7 := rfl
theorem setBit_three_true (v : Byte) : setBit v 3 true = v ||| 0x08 := rfl

/-! ## Flags after an update -/

@[simp] theorem setAdif_adif (b : Bool) (s : State) : (setAdif b s).adif = b := by
  simp [State.adif, getElem_setBit]
@[simp] theorem setAdif_adie (b : Bool) (s : State) : (setAdif b s).adie = s.adie := by
  simp [State.adie, getElem_setBit]
@[simp] theorem setAdif_aden (b : Bool) (s : State) : (setAdif b s).aden = s.aden := by
  simp [State.aden, getElem_setBit]
@[simp] theorem setAdif_adate (b : Bool) (s : State) : (setAdif b s).adate = s.adate := by
  simp [State.adate, getElem_setBit]
@[simp] theorem setAdif_adts (b : Bool) (s : State) : (setAdif b s).adts = s.adts := rfl
@[simp] theorem setAdif_freeRunning (b : Bool) (s : State) : (setAdif b s).freeRunning = s.freeRunning := by
  simp [State.freeRunning]
@[simp] theorem setAdie_adif (b : Bool) (s : State) : (setAdie b s).adif = s.adif := by
  simp [State.adif, getElem_setBit]
@[simp] theorem setAdie_adie (b : Bool) (s : State) : (setAdie b s).adie = b := by
  simp [State.adie, getElem_setBit]
@[simp] theorem setAdie_aden (b : Bool) (s : State) : (setAdie b s).aden = s.aden := by
  simp [State.aden, getElem_setBit]
@[simp] theorem setAdie_adate (b : Bool) (s : State) : (setAdie b s).adate = s.adate := by
  simp [State.adate, getElem_setBit]
@[simp] theorem setAdie_adts (b : Bool) (s : State) : (setAdie b s).adts = s.adts := rfl
@[simp] theorem setAdie_freeRunning (b : Bool) (s : State) : (setAdie b s).freeRunning = s.freeRunning := by
  simp [State.freeRunning]

/-- ADIE written and ADIF cleared or not is a write of ADCSRA alone. -/
theorem setInterruptEnable_eq (e d : Bool) (s : State) :
    setInterruptEnable e d s =
      { s with adcsra := if d then setBit (setBit s.adcsra 3 e) 4 false else setBit s.adcsra 3 e } := by
  cases d <;> rfl

/-! ## Enabling conditions -/

theorem whenEnabled_next {b : Bool} {o : Result} {t : State} :
    whenEnabled b o = .next t ↔ b = true ∧ o = .next t := by
  cases b <;> simp [whenEnabled]

@[simp] theorem whenEnabled_true (o : Result) : whenEnabled true o = o := rfl
@[simp] theorem whenEnabled_false (o : Result) : whenEnabled false o = .refused .notEnabled := rfl

theorem hostReady_iff {s : State} : hostReady s = true ↔ s.hp = .ready := by simp [hostReady]

theorem hostReady_eq_false {s : State} : hostReady s = false ↔ s.hp ≠ .ready := by simp [hostReady]

theorem converterOn_iff {s : State} : converterOn s = true ↔ s.aden = true ∧ s.convRunning = true := by
  simp [converterOn]

theorem interruptTaken_iff {s : State} :
    interruptTaken s = true ↔ s.adif = true ∧ s.adie = true ∧ s.gie = true := by
  simp [interruptTaken, and_assoc]

/-! ## Validation and marks -/

theorem firstError_eq_none_iff {c : Config} : c.firstError = none ↔ ValidConfig c := by
  simp [Config.firstError, ValidConfig, Config.wellFormed]

theorem firstError_eq_some {c : Config} {e : ConfigError} (h : c.firstError = some e) :
    c.passes e = false ∧ ∃ before after, configChecks = before ++ e :: after ∧ before.all c.passes = true := by
  obtain ⟨he, before, after, hs, hb⟩ := List.find?_eq_some_iff_append.mp h
  refine ⟨by simpa using he, before, after, hs, ?_⟩
  simpa [List.all_eq_true] using hb

theorem blocked_eq_none_iff {s : State} : blocked s = none ↔ ValidConfig s.cfg ∧ Unmarked s := by
  rw [← firstError_eq_none_iff]
  unfold blocked Unmarked
  cases s.fault <;> cases s.refused <;> simp

/-- What a blocked state answers: the recorded fault, the refused run, or the failing check. -/
theorem blocked_eq_some {s : State} {o : Result} (h : blocked s = some o) :
    (∃ r, s.fault = some r ∧ o = .fault r) ∨ (s.refused = true ∧ o = .refused .runRefused) ∨
      ∃ e, s.cfg.firstError = some e ∧ o = .refused (.invalidConfiguration e) := by
  unfold blocked at h
  cases hf : s.fault with
  | some r => simp only [hf, Option.some.injEq] at h; exact .inl ⟨r, rfl, h.symm⟩
  | none =>
    cases hr : s.refused with
    | true => simp only [hf, hr, if_true, Option.some.injEq] at h; exact .inr (.inl ⟨rfl, h.symm⟩)
    | false =>
      cases he : s.cfg.firstError with
      | none => simp [hf, hr, he] at h
      | some e => simp [hf, hr, he] at h; exact .inr (.inr ⟨e, rfl, h.symm⟩)

/-! ## The step -/

theorem performWord_ok {w : Word} {i : Instr} (h : decode w = .ok i) (s : State) :
    performWord w s = exec i s := by
  simp [performWord, h]

theorem performWord_error {w : Word} {r : Reserved} (h : decode w = .error r) (s : State) :
    performWord w s = .refused .reservedEncoding := by
  simp [performWord, h]

/-- The step of an unblocked state performs the head of its schedule. -/
theorem step_eq_performWord {s : State} {w : Word} {rest : List Word}
    (hc : ValidConfig s.cfg) (hu : Unmarked s) (hs : s.schedule = w :: rest) :
    step s = performWord w { s with schedule := rest } := by
  simp [step, blocked_eq_none_iff.mpr ⟨hc, hu⟩, fetch, hs]

/-- All a step can do when it answers a next state: an unblocked state's next word decodes to an operation
whose meaning gives that state. -/
theorem step_next {s s' : State} (h : step s = .next s') :
    ValidConfig s.cfg ∧ Unmarked s ∧
      ∃ w rest i, s.schedule = w :: rest ∧ decode w = .ok i ∧
        exec i { s with schedule := rest } = .next s' := by
  unfold step at h
  cases hb : blocked s with
  | some o =>
    rw [hb] at h
    obtain ⟨r, -, rfl⟩ | ⟨-, rfl⟩ | ⟨e, -, rfl⟩ := blocked_eq_some hb <;> cases h
  | none =>
    rw [hb] at h
    obtain ⟨hc, hu⟩ := blocked_eq_none_iff.mp hb
    refine ⟨hc, hu, ?_⟩
    cases hs : s.schedule with
    | nil => simp [fetch, hs] at h
    | cons w rest =>
      simp only [fetch, hs] at h
      cases hd : decode w with
      | error r => simp [performWord, hd] at h
      | ok i => exact ⟨w, rest, i, rfl, hd, by simpa [performWord, hd] using h⟩

/-! ## Meanings that answer a next state -/

theorem execInit_next {s t : State} (h : execInit s = .next t) :
    s.hp = .ready ∧ s.adie = false ∧ t = initRegisters (initCells s) := by
  obtain ⟨hr, h⟩ := whenEnabled_next.mp h
  cases ha : s.adie <;> simp [ha] at h
  exact ⟨hostReady_iff.mp hr, rfl, h.symm⟩

theorem execEnable_next {s t : State} (h : execEnable s = .next t) :
    s.hp = .ready ∧ s.initialized = true ∧
      t = countDraw (setInterruptEnable true (Config.clearDraw s.draws) s) := by
  obtain ⟨hr, h⟩ := whenEnabled_next.mp h
  cases ha : s.initialized <;> simp [ha] at h
  exact ⟨hostReady_iff.mp hr, rfl, h.symm⟩

theorem execDisable_next {s t : State} (h : execDisable s = .next t) :
    s.hp = .ready ∧ t = countDraw (setInterruptEnable false (Config.clearDraw s.draws) s) := by
  obtain ⟨hr, h⟩ := whenEnabled_next.mp h
  exact ⟨hostReady_iff.mp hr, by simpa using h.symm⟩

theorem execConvert_next {v : Byte} {s t : State} (h : execConvert v s = .next t) :
    s.aden = true ∧ s.convRunning = true ∧
      t = countDraw (completeConversion v (Config.adclDraw s.draws) s) := by
  obtain ⟨hr, h⟩ := whenEnabled_next.mp h
  obtain ⟨ha, hc⟩ := converterOn_iff.mp hr
  exact ⟨ha, hc, by simpa [sampleOperand] using h.symm⟩

theorem execIsr_next {s t : State} (h : execIsr s = .next t) :
    s.adif = true ∧ s.adie = true ∧ s.gie = true ∧
      t = interruptReturn (serviceSample (interruptEnter s)) := by
  obtain ⟨hr, h⟩ := whenEnabled_next.mp h
  obtain ⟨h1, h2, h3⟩ := interruptTaken_iff.mp hr
  exact ⟨h1, h2, h3, by simpa using h.symm⟩

theorem execPoll_next {s t : State} (h : execPoll s = .next t) : s.hp = .ready ∧ t = pRead1 s := by
  obtain ⟨hr, h⟩ := whenEnabled_next.mp h
  exact ⟨hostReady_iff.mp hr, by simpa using h.symm⟩

theorem execHstep_next {s t : State} (h : execHstep s = .next t) : s.hp ≠ .ready ∧ t = microStep s := by
  obtain ⟨hr, h⟩ := whenEnabled_next.mp h
  exact ⟨hostReady_eq_false.mp (by simpa using hr), by simpa using h.symm⟩

theorem execSei_next {s t : State} (h : execSei s = .next t) :
    s.hp = .ready ∧ t = { s with gie := true } := by
  obtain ⟨hr, h⟩ := whenEnabled_next.mp h
  exact ⟨hostReady_iff.mp hr, by simpa using h.symm⟩

theorem execCli_next {s t : State} (h : execCli s = .next t) :
    s.hp = .ready ∧ t = { s with gie := false } := by
  obtain ⟨hr, h⟩ := whenEnabled_next.mp h
  exact ⟨hostReady_iff.mp hr, by simpa using h.symm⟩

theorem execAdvance_next {k : Byte} {s t : State} (h : execAdvance k s = .next t) :
    t = { s with envMs := s.envMs + k.setWidth 32 } := by
  simpa [execAdvance, millisOperand] using h.symm

/-! ## What INIT leaves -/

/-- The registers after `INIT`'s three writes; every other field is as it was. -/
theorem initRegisters_eq (s : State) :
    initRegisters s = { s with
      admux := packAdmux s.cfg.adcRef true s.cfg.adcChannel &&& 0xEF
      adcsrb := (s.adcsrb &&& 0x40 ||| 0) &&& 0x47
      adcsra := setBit (setBit (packAdcsra true true true false false s.cfg.psCode) 6 false) 4
        (s.adif && !(packAdcsra true true true false false s.cfg.psCode)[4])
      convRunning := (packAdcsra true true true false false s.cfg.psCode)[7] &&
        (s.convRunning || (packAdcsra true true true false false s.cfg.psCode)[6]) } := rfl

/-! ## The tracker step -/

/-- A tracker step writes the four cells that the service routine owns or shares, and nothing else. -/
theorem trackerStep_frame (input : Byte) (s : State) :
    trackerStep input s = { s with
      runningMax := (trackerStep input s).runningMax
      countdown := (trackerStep input s).countdown
      clapCount := (trackerStep input s).clapCount
      lastClap := (trackerStep input s).lastClap } := by
  unfold trackerStep debounceStep refreshPeak detectClap accumulate decayPeak memWrite4
  repeat' split
  all_goals rfl

/-- The branch a tracker step takes, one case each (spec 41_tracker R150). -/
theorem trackerStep_cases (input : Byte) (s : State) :
    (s.runningMax < s.cfg.maxT ∧ trackerStep input s = debounceStep s) ∨
    (¬ s.runningMax < s.cfg.maxT ∧ s.runningMax ≤ input ∧ trackerStep input s = refreshPeak input s) ∨
    (¬ s.runningMax < s.cfg.maxT ∧ input < s.runningMax ∧ s.countdown = 0 ∧ trackerStep input s = s) ∨
    (¬ s.runningMax < s.cfg.maxT ∧ input < s.runningMax ∧ s.countdown ≠ 0 ∧ detects input s = true ∧
      trackerStep input s = detectClap s) ∨
    (¬ s.runningMax < s.cfg.maxT ∧ input < s.runningMax ∧ s.countdown ≠ 0 ∧ detects input s = false ∧
      trackerStep input s = decayPeak s) := by
  unfold trackerStep
  by_cases h1 : s.runningMax < s.cfg.maxT
  · exact .inl ⟨h1, if_pos h1⟩
  by_cases h2 : s.runningMax ≤ input
  · exact .inr (.inl ⟨h1, h2, by simp [h1, h2]⟩)
  have h2' : input < s.runningMax := by simpa [BitVec.not_le] using h2
  by_cases h3 : s.countdown = 0
  · exact .inr (.inr (.inl ⟨h1, h2', h3, by simp [h1, h2, h3]⟩))
  cases h4 : detects input s
  · exact .inr (.inr (.inr (.inr ⟨h1, h2', h3, rfl, by rw [if_neg h1, if_neg h2, if_neg h3]; simp⟩)))
  · exact .inr (.inr (.inr (.inl ⟨h1, h2', h3, rfl, by rw [if_neg h1, if_neg h2, if_neg h3]; simp⟩)))

/-- A pending clap is a DETECT of the tracker step (41_tracker R154, R155). -/
theorem ClapPending.trackerStep_eq {s : State} (h : ClapPending s) : trackerStep s.adch s = detectClap s := by
  have hm := h.tracking
  obtain ⟨hd, -⟩ | ⟨-, hr, -⟩ | ⟨-, -, hc, -⟩ | ⟨-, -, -, -, he⟩ | ⟨-, -, -, hq, -⟩ := trackerStep_cases s.adch s
  · simp [trackerMode, hd] at hm
  · exact absurd h.falling (Nat.not_lt.mpr hr)
  · simp only [trackerMode, hc, if_true] at hm
    split at hm <;> cases hm
  · exact he
  · exact absurd h.qualifies (by simp [hq])

end Sys2Proof.Machine
end

