-- ==== Sys2Proof/Laws/Cells.lean ====
section
/-! SUPPORT. Reading a named cell after writing one (spec 20_memory R64, 10_state R21–R27). -/

namespace Sys2Proof.Machine

/-- What a software write of ADCSRA leaves in each of its fields (10_state R22, R25–R27). -/
theorem writeAdcsra_fields (v : Byte) (s : State) :
    (writeAdcsra v s).aden = v[7] ∧ (writeAdcsra v s).adate = v[5] ∧
      (writeAdcsra v s).adif = (s.adif && !v[4]) ∧ (writeAdcsra v s).adie = v[3] ∧
      (writeAdcsra v s).convRunning = (v[7] && (s.convRunning || v[6])) := by
  simp [writeAdcsra, State.aden, State.adate, State.adif, State.adie, getElem_setBit]

/-- A software write of ADCSRA writes that register and `conv_running` alone. -/
theorem writeAdcsra_frame (v : Byte) (s : State) :
    writeAdcsra v s =
      { s with adcsra := (writeAdcsra v s).adcsra, convRunning := (writeAdcsra v s).convRunning } := rfl

/-- A write of a software cell is read back. -/
theorem memRead1_memWrite1_software (v : Byte) (s : State) :
    memRead1 .clapCount (memWrite1 .clapCount v s) = v ∧
      memRead1 .runningMax (memWrite1 .runningMax v s) = v ∧
      memRead1 .countdown (memWrite1 .countdown v s) = v ∧
      memRead1 .processedClaps (memWrite1 .processedClaps v s) = v ∧
      memRead4 (memWrite4 (v.setWidth 32) s) = v.setWidth 32 := ⟨rfl, rfl, rfl, rfl, rfl⟩

/-- A register that keeps reserved bits at 0 is read back without them; a data register keeps its value. -/
theorem memRead1_memWrite1_register (v : Byte) (s : State) :
    memRead1 .admux (memWrite1 .admux v s) = v &&& 0xEF ∧
      memRead1 .adcsrb (memWrite1 .adcsrb v s) = v &&& 0x47 ∧
      memWrite1 .adch v s = s ∧ memWrite1 .adcl v s = s := ⟨rfl, rfl, rfl, rfl⟩

/-- A write of a cell leaves every other one-byte cell and `last_clap` as they were. -/
theorem memRead1_memWrite1_other {c d : ByteCell} (h : d ≠ c) (v : Byte) (s : State) :
    memRead1 d (memWrite1 c v s) = memRead1 d s ∧ memRead4 (memWrite1 c v s) = memRead4 s := by
  cases c <;> cases d <;> first | exact absurd rfl h | exact ⟨rfl, rfl⟩

/-- A write of `last_clap` leaves every one-byte cell as it was. -/
theorem memRead1_memWrite4 (c : ByteCell) (v : Dword) (s : State) :
    memRead1 c (memWrite4 v s) = memRead1 c s := by
  cases c <;> rfl

end Sys2Proof.Machine
end

