-- ==== Sys2Proof/Laws/Params.lean ====
section
/-! SUPPORT. What a valid configuration gives: the eight checks as facts about its constants. -/

namespace Sys2Proof.Machine

/-- The clock check as a proposition (40_sampler R124, R125). -/
theorem clockOk_iff {c : Config} :
    c.clockOk = true ↔
      c.adcPrescaler ∈ divisions ∧ (c.prescaler = .selected → 125000 * c.adcPrescaler = c.fCpu) := by
  unfold Config.clockOk
  rw [Bool.and_eq_true, Bool.or_eq_true, List.contains_iff_mem, beq_iff_eq, bne_iff_ne]
  exact and_congr_right fun _ => (Decidable.imp_iff_not_or).symm

theorem adcPrescaler_pos_of_clockOk {c : Config} (h : c.clockOk = true) : 0 < c.adcPrescaler := by
  have := (clockOk_iff.mp h).1
  simp only [divisions, List.mem_cons, List.not_mem_nil, or_false] at this
  omega

/-- The eight checks of 40_sampler R124 as facts, the sample counts existing because the divider is not 0. -/
theorem validConfig_iff {c : Config} :
    ValidConfig c ↔
      c.minT.toNat < c.maxT.toNat ∧ c.peakDelta ≤ 255 ∧ 3000 * c.cSample < c.fCpu ∧
      c.debHi < c.maxT.toNat ∧ 1 ≤ c.peakTimeout ∧ c.peakTimeout ≤ 255 ∧ c.clockOk = true ∧
      (referenceOf c.adcRef).isSome = true ∧ (channelOf c.adcChannel).isSome = true := by
  unfold ValidConfig Config.wellFormed
  simp only [configChecks, List.all_cons, List.all_nil, Config.passes, Bool.and_eq_true, Bool.or_eq_true,
    decide_eq_true_eq, beq_iff_eq, and_true]
  constructor
  · rintro ⟨h1, h2, h3, h4, h5, h6, h7, h8⟩
    have hc : c.cSample ≠ 0 := by
      have := adcPrescaler_pos_of_clockOk h6
      unfold Config.cSample
      omega
    obtain ⟨h5, h5'⟩ := h5.resolve_left hc
    exact ⟨h1, h2, h3, h4.resolve_left hc, h5, h5', h6, h7, h8⟩
  · rintro ⟨h1, h2, h3, h4, h5, h5', h6, h7, h8⟩
    exact ⟨h1, h2, h3, .inr h4, .inr ⟨h5, h5'⟩, h6, h7, h8⟩

theorem cSample_pos {c : Config} (h : ValidConfig c) : 0 < c.cSample := by
  have := adcPrescaler_pos_of_clockOk (validConfig_iff.mp h).2.2.2.2.2.2.1
  unfold Config.cSample
  omega

end Sys2Proof.Machine
end

