-- ==== Sys2Proof/Laws/PerInstr.lean ====
section
/-! SUPPORT. One fact per constructor of `Instr`: its word selects its row of the opcode table (spec 30_encoding R88, R89). -/

namespace Sys2Proof.Laws

/-- The operation is well-formed, its word selects exactly one row of 30_encoding R89, and that row builds
it back from the word's operand byte. -/
def EncodeRow.Statement (i : Instr) : Prop :=
  i.wellFormed = true ∧
    ∃ row : OpcodeRow,
      (opcodeRows.filter fun r => encode i &&& r.mask == r.pattern) = [row] ∧
        row.build (operandOf (encode i)) = i

theorem EncodeRow.init : EncodeRow.Statement .init := ⟨rfl, _, rfl, rfl⟩
theorem EncodeRow.enable : EncodeRow.Statement .enable := ⟨rfl, _, rfl, rfl⟩
theorem EncodeRow.disable : EncodeRow.Statement .disable := ⟨rfl, _, rfl, rfl⟩
theorem EncodeRow.poll : EncodeRow.Statement .poll := ⟨rfl, _, rfl, rfl⟩
theorem EncodeRow.sei : EncodeRow.Statement .sei := ⟨rfl, _, rfl, rfl⟩
theorem EncodeRow.cli : EncodeRow.Statement .cli := ⟨rfl, _, rfl, rfl⟩
theorem EncodeRow.hstep : EncodeRow.Statement .hstep := ⟨rfl, _, rfl, rfl⟩
theorem EncodeRow.isr : EncodeRow.Statement .isr := ⟨rfl, _, rfl, rfl⟩

/-- The word of a format-V operation selects its row alone, whatever its operand. -/
theorem formatV_rows (v : Byte) :
    (opcodeRows.filter fun r => encode (.convert v) &&& r.mask == r.pattern) =
        [⟨0x1000, 0xFF00, fun v => .convert v⟩] ∧
      (opcodeRows.filter fun r => encode (.advance v) &&& r.mask == r.pattern) =
        [⟨0x2000, 0xFF00, fun k => .advance k⟩] ∧
      operandOf (encode (.convert v)) = v ∧ operandOf (encode (.advance v)) = v := by
  have select : ∀ v : Byte,
      (opcodeRows.map fun r => encode (.convert v) &&& r.mask == r.pattern) =
          [false, false, false, false, false, false, false, true, false, false] ∧
        (opcodeRows.map fun r => encode (.advance v) &&& r.mask == r.pattern) =
          [false, false, false, false, false, false, false, false, false, true] ∧
        operandOf (encode (.convert v)) = v ∧ operandOf (encode (.advance v)) = v := by
    decide
  obtain ⟨hc, ha, ho, ho'⟩ := select v
  refine ⟨?_, ?_, ho, ho'⟩
  · simp only [opcodeRows, List.map_cons, List.map_nil, List.cons.injEq, and_true] at hc
    simp only [opcodeRows, List.filter_cons, List.filter_nil, hc, if_true, Bool.false_eq_true, if_false]
  · simp only [opcodeRows, List.map_cons, List.map_nil, List.cons.injEq, and_true] at ha
    simp only [opcodeRows, List.filter_cons, List.filter_nil, ha, if_true, Bool.false_eq_true, if_false]

theorem EncodeRow.convert (v : Byte) : EncodeRow.Statement (.convert v) :=
  ⟨rfl, _, (formatV_rows v).1, congrArg Instr.convert (formatV_rows v).2.2.1⟩

theorem EncodeRow.advance (k : Byte) : EncodeRow.Statement (.advance k) :=
  ⟨rfl, _, (formatV_rows k).2.1, congrArg Instr.advance (formatV_rows k).2.2.2⟩

end Sys2Proof.Laws
end

