-- ==== Sys2Proof/Laws/Runs.lean ====
section
/-! SUPPORT. Performing programs: one word at a time, one program after another, and what no operation touches. -/

namespace Sys2Proof.Machine

/-- No micro-step of `poll()` touches the configuration, the marks, the schedule or the clock. -/
theorem microStep_frame (s : State) :
    (microStep s).cfg = s.cfg ∧ (microStep s).fault = s.fault ∧ (microStep s).refused = s.refused ∧
      (microStep s).schedule = s.schedule ∧ (microStep s).envMs = s.envMs := by
  unfold microStep
  split <;>
    simp only [pRead1, pRead2, pInprog, pCsEnter, pCsRead, pCsExit, pNow, pCmp, pSnap, pRmwRead, pRmwWrite,
      pFinDone, emit, criticalEnter, criticalExit, memWrite1, and_self] <;>
    (try split) <;> exact ⟨rfl, rfl, rfl, rfl, rfl⟩

/-- No operation that answers a next state touches the configuration, the marks or the schedule. -/
theorem exec_frame {i : Instr} {s t : State} (h : exec i s = .next t) :
    t.cfg = s.cfg ∧ t.fault = s.fault ∧ t.refused = s.refused ∧ t.schedule = s.schedule := by
  cases i with
  | init => obtain ⟨-, -, rfl⟩ := execInit_next h; exact ⟨rfl, rfl, rfl, rfl⟩
  | enable =>
    obtain ⟨-, -, rfl⟩ := execEnable_next h; rw [setInterruptEnable_eq]; exact ⟨rfl, rfl, rfl, rfl⟩
  | disable =>
    obtain ⟨-, rfl⟩ := execDisable_next h; rw [setInterruptEnable_eq]; exact ⟨rfl, rfl, rfl, rfl⟩
  | poll => obtain ⟨-, rfl⟩ := execPoll_next h; exact ⟨rfl, rfl, rfl, rfl⟩
  | sei => obtain ⟨-, rfl⟩ := execSei_next h; exact ⟨rfl, rfl, rfl, rfl⟩
  | cli => obtain ⟨-, rfl⟩ := execCli_next h; exact ⟨rfl, rfl, rfl, rfl⟩
  | hstep =>
    obtain ⟨-, rfl⟩ := execHstep_next h
    obtain ⟨h1, h2, h3, h4, -⟩ := microStep_frame s; exact ⟨h1, h2, h3, h4⟩
  | convert v => obtain ⟨-, -, rfl⟩ := execConvert_next h; exact ⟨rfl, rfl, rfl, rfl⟩
  | isr =>
    obtain ⟨-, -, -, rfl⟩ := execIsr_next h
    unfold serviceSample
    rw [trackerStep_frame]
    exact ⟨rfl, rfl, rfl, rfl⟩
  | advance k => rw [execAdvance_next h]; exact ⟨rfl, rfl, rfl, rfl⟩

/-- Only `ADVANCE` moves the clock, by its operand (40_sampler R122). -/
theorem exec_envMs {w : Word} {i : Instr} {s t : State} (hd : decode w = .ok i) (h : exec i s = .next t) :
    t.envMs = s.envMs + BitVec.ofNat 32 (millisOf w) := by
  have other : (∀ k, i ≠ .advance k) → millisOf w = 0 := fun hk => by
    cases i <;> first | exact absurd rfl (hk _) | simp [millisOf, hd]
  cases i with
  | advance k =>
    obtain rfl := execAdvance_next h
    simp only [millisOf, hd, BitVec.ofNat_toNat]
  | init => obtain ⟨-, -, rfl⟩ := execInit_next h; simp [other, initRegisters_eq, initCells]
  | enable => obtain ⟨-, -, rfl⟩ := execEnable_next h; simp [other, setInterruptEnable_eq, countDraw]
  | disable => obtain ⟨-, rfl⟩ := execDisable_next h; simp [other, setInterruptEnable_eq, countDraw]
  | poll => obtain ⟨-, rfl⟩ := execPoll_next h; simp [other, pRead1]
  | sei => obtain ⟨-, rfl⟩ := execSei_next h; simp [other]
  | cli => obtain ⟨-, rfl⟩ := execCli_next h; simp [other]
  | hstep =>
    obtain ⟨-, rfl⟩ := execHstep_next h
    rw [other (by simp), (microStep_frame s).2.2.2.2]
    simp
  | convert v => obtain ⟨-, -, rfl⟩ := execConvert_next h; simp [other, countDraw, completeConversion]
  | isr =>
    obtain ⟨-, -, -, rfl⟩ := execIsr_next h
    unfold serviceSample
    rw [trackerStep_frame, other (by simp)]
    simp [interruptReturn, interruptEnter]

theorem perform_nil (s : State) : perform [] s = .next s := rfl

/-- The first word of a program, performed in an unblocked state. -/
theorem perform_cons {s t : State} {w : Word} {rest : List Word} {i : Instr}
    (hc : ValidConfig s.cfg) (hu : Unmarked s) (hd : decode w = .ok i) (ht : exec i s = .next t) :
    perform (w :: rest) s = perform rest t := by
  simp [perform, blocked_eq_none_iff.mpr ⟨hc, hu⟩, performWord, hd, ht]

/-- All a program of at least one word does when it runs to its end: its first word is an operation that
answers a next state, and the rest runs from there. -/
theorem perform_cons_next {s u : State} {w : Word} {rest : List Word}
    (h : perform (w :: rest) s = .next u) :
    ValidConfig s.cfg ∧ Unmarked s ∧
      ∃ i t, decode w = .ok i ∧ exec i s = .next t ∧ perform rest t = .next u := by
  simp only [perform] at h
  cases hb : blocked s with
  | some o =>
    rw [hb] at h
    obtain ⟨r, -, rfl⟩ | ⟨-, rfl⟩ | ⟨e, -, rfl⟩ := blocked_eq_some hb <;> cases h
  | none =>
    obtain ⟨hc, hu⟩ := blocked_eq_none_iff.mp hb
    cases hd : decode w with
    | error r => simp [hb, performWord, hd] at h
    | ok i =>
      cases ht : exec i s with
      | next t => exact ⟨hc, hu, i, t, rfl, ht, by simpa [hb, performWord, hd, ht] using h⟩
      | fault r => simp [hb, performWord, hd, ht] at h
      | refused r => simp [hb, performWord, hd, ht] at h

/-- One program after another: the second starts where the first ends. -/
theorem perform_append {first second : List Word} {s t : State} (h : perform first s = .next t) :
    perform (first ++ second) s = perform second t := by
  induction first generalizing s with
  | nil => cases h; rfl
  | cons w rest ih =>
    obtain ⟨hc, hu, i, m, hd, hm, hr⟩ := perform_cons_next h
    rw [List.cons_append, perform_cons hc hu hd hm, ih hr]

end Sys2Proof.Machine
end

