-- ==== Sys2Proof/Tests/Slice0.lean ====
section
/-! SUPPORT. The model's own tests: words written out from the spec, the well-formedness smoke, one-step vectors of spec/95_test_vectors.md, and a witness for the hypotheses of every obligation. -/

namespace Sys2Proof.Tests

open Sys2Proof.Machine

/-! ## Words and their operations (30_encoding R86–R89; 95_test_vectors section 2) -/

/-- What the decoder answers, without the reason of a refusal. -/
def decoded (w : Word) : Option Instr := decodeTableWord 16 w.toNat

theorem test_decode_init : decoded 0b00000001_00000000 = some .init := by decide
theorem test_decode_enable : decoded 0b00000010_00000000 = some .enable := by decide
theorem test_decode_disable : decoded 0b00000011_00000000 = some .disable := by decide
theorem test_decode_poll : decoded 0b00000100_00000000 = some .poll := by decide
theorem test_decode_sei : decoded 0b00000101_00000000 = some .sei := by decide
theorem test_decode_cli : decoded 0b00000110_00000000 = some .cli := by decide
theorem test_decode_hstep : decoded 0b00000111_00000000 = some .hstep := by decide
theorem test_decode_convert : decoded 0b00010000_11111111 = some (.convert 255) := by decide
theorem test_decode_isr : decoded 0b00010001_00000000 = some .isr := by decide
theorem test_decode_advance : decoded 0b00100000_10101010 = some (.advance 170) := by decide

/-- The reserved words of 95_test_vectors section 2. -/
theorem test_decode_reserved :
    ([0x0000, 0x0101, 0x1101, 0x0800, 0x1200, 0x2100, 0x8000, 0xFFFF] : List Word).all
      (fun w => decoded w == none) = true := by decide

/-- The reasons of three of them (30_encoding R98, R99). -/
theorem test_reserved_reason :
    reservedReason 0x0101 = .nonzeroOperand ∧ reservedReason 0x8000 = .extensionSpace ∧
      reservedReason 0x0800 = .unknownOpcode := by decide

/-- `WAIT 501`, `SAMPLE 0xAA` and `BOOT` (95_test_vectors section 2). -/
theorem test_expansions :
    waitWords 501 = [0x20FF, 0x20F6] ∧ waitWords 510 = [0x20FF, 0x20FF] ∧ waitWords 0 = [] ∧
      sampleWords 0xAA = [0x10AA, 0x1100] ∧
      expandPseudo .boot (.resetWith .atReset 0) = [0x0100, 0x0200, 0x0500] := by decide

/-- A line with a comment and a hex operand, and a line with an operand too large (30_encoding R94). -/
theorem test_assembler_lines :
    parseLine "CONVERT 0xAA ; a clap".toList = some (some (.convert 170)) ∧
      parseLine "ADVANCE 256".toList = none := by decide

/-! ## Well-formedness smoke (30_encoding R95; 40_sampler R124, vectors V-C1 to V-C9) -/

theorem test_samples_needs_one : Pseudo.wellFormed (.samples 7 0) = false := by decide
theorem test_ex2_is_valid : Config.atReset.firstError = none := by decide
theorem test_refuses_threshold_order :
    ({ Config.atReset with minT := 160 } : Config).firstError = some .E_THRESH_ORDER := by decide
theorem test_refuses_delta_range :
    ({ Config.atReset with maxT := 200, minT := 10, jitter := 66 } : Config).firstError =
      some .E_DELTA_RANGE := by decide
theorem test_refuses_rate :
    ({ Config.atReset with fCpu := 1000000, prescaler := .given 128 } : Config).firstError =
      some .E_RATE := by decide
theorem test_refuses_debounce_pack :
    ({ Config.atReset with debounceMs := 4260 } : Config).firstError = some .E_DEBOUNCE_PACK := by decide
theorem test_refuses_timeout_range :
    ({ Config.atReset with peakTimeoutUs := 26624 } : Config).firstError = some .E_TIMEOUT_RANGE := by decide
theorem test_refuses_clock :
    ({ Config.atReset with fCpu := 12000000 } : Config).firstError = some .E_CLOCK := by decide
theorem test_refuses_reference :
    ({ Config.atReset with adcRef := 0b10 } : Config).firstError = some .E_REF := by decide
theorem test_refuses_channel :
    ({ Config.atReset with adcChannel := 0b1010 } : Config).firstError = some .E_CHANNEL := by decide
theorem test_first_failure_is_reported :
    ({ Config.atReset with minT := 160, adcRef := 0b10 } : Config).firstError = some .E_THRESH_ORDER := by decide
theorem test_extreme_debounce_is_valid :
    ({ Config.atReset with debounceMs := 4259 } : Config).firstError = none ∧
      ({ Config.atReset with debounceMs := 4259 } : Config).debBase = 0 := by decide

/-! ## One-step vectors (95_test_vectors sections 4 to 7) -/

/-- Reset with EX2 and the draw 1000. -/
def fresh : State := .resetWith .atReset 1000

/-- The booted block of 95_test_vectors section 8: ADMUX 0x60, ADCSRA 0xEF as it reads, the converter running. -/
def booted : State :=
  { fresh with admux := 0x60, adcsra := 0xAF, convRunning := true, initialized := true, gie := true }

/-- The booted block with the tracker at `(runningMax, countdown)` and a conversion result waiting. -/
def sampled (runningMax countdown input : Byte) : State :=
  { booted with runningMax := runningMax, countdown := countdown, adch := input, adcsra := 0xBF }

/-- The booted block at a phase of a poll, with `clap_count` and `processed_claps`. -/
def polling (phase : HostPhase) (clapCount processed : Byte) : State :=
  { booted with hp := phase, clapCount := clapCount, processedClaps := processed }

/-- A field of the next state, if there is one. -/
def after {α : Type} (o : Result) (field : State → α) : Option α :=
  match o with
  | .next s => some (field s)
  | .fault _ => none
  | .refused _ => none

/-- V-S1. -/
theorem test_init :
    after (exec .init fresh) (fun s => (s.admux, s.adcsrb, s.readAdcsra, s.convRunning, s.initialized)) =
      some (0x60, 0x00, 0xE7, true, true) := by decide

/-- V-S5 and V-S6: both draws of `ENABLE` with ADIF set. -/
theorem test_enable_draws :
    (setInterruptEnable true false { fresh with adcsra := 0xB7, convRunning := true }).readAdcsra = 0xFF ∧
      (setInterruptEnable true true { fresh with adcsra := 0xB7, convRunning := true }).readAdcsra = 0xEF := by
  decide

/-- V-S11: `DISABLE` without the clear, then a conversion, leaves 0xF7. -/
theorem test_disable_then_convert :
    (completeConversion 50 0 (setInterruptEnable false false booted)).readAdcsra = 0xF7 := by decide

/-- V-S9. -/
theorem test_convert :
    after (exec (.convert 0xAA) booted) (fun s => (s.adch, s.readAdcsra)) = some (0xAA, 0xFF) := by decide

/-- V-S10. -/
theorem test_isr_rises :
    after (exec .isr (sampled 160 0 0xAA)) (fun s => (s.runningMax, s.countdown, s.readAdcsra, s.gie)) =
      some (170, 3, 0xEF, true) := by decide

/-- V-T9: both conjuncts of the DETECT condition are exact. -/
theorem test_isr_detects :
    after (exec .isr (sampled 176 3 96)) (fun s => (s.runningMax, s.countdown, s.clapCount, s.lastClap)) =
      some (159, 10, 1, 1000) := by decide

/-- V-T10, V-T17 and V-T20: decay, timeout and the end of debounce. -/
theorem test_tracker_decays :
    [(176, 3, 97), (170, 1, 150), (159, 1, 255)].map (fun (m, c, x) =>
        ((trackerStep x (sampled m c x)).runningMax, (trackerStep x (sampled m c x)).countdown)) =
      ([(176, 2), (160, 0), (160, 0)] : List (Byte × Byte)) := by decide

/-- V-S14: the clock wraps. -/
theorem test_advance_wraps :
    after (exec (.advance 2) { fresh with envMs := 0xFFFFFFFF }) (fun s => s.envMs) = some 1 := by decide

/-- V-X2: the flag that `SEI` sets, and the one that `CLI` clears. -/
theorem test_mask_words :
    after (exec .sei { booted with gie := false }) (fun s => s.gie) = some true ∧
      after (exec .cli booted) (fun s => s.gie) = some false := by decide

/-- The first micro-step with an unreported clap (42_reducer R191). -/
theorem test_poll :
    after (exec .poll (polling .ready 2 1)) (fun s => (s.tmpC1, s.hp)) = some (2, .pInprog) := by decide

/-- V-R10: the overflow. -/
theorem test_hstep_overflow :
    after (exec .hstep (polling .pInprog 127 126)) (fun s => (s.clapCount, s.processedClaps, s.events)) =
      some (0, 0, [.overflow]) := by decide

/-- V-R3 and V-R4: the comparison is strict. -/
theorem test_hstep_timeout_is_strict :
    after (exec .hstep { polling .pCmp 1 1 with tmpT := 1000, tmpNow := 1500 }) (fun s => (s.hp, s.events)) =
        some (.ready, [.noEvent]) ∧
      after (exec .hstep { polling .pCmp 1 1 with tmpT := 1000, tmpNow := 1501 }) (fun s => (s.hp, s.events)) =
        some (.pSnap, []) := by decide

/-- V-S3 and V-S4: the two faults. -/
theorem test_faults :
    exec .enable fresh = .fault .enableBeforeInit ∧ exec .init booted = .fault .initWhileEnabled :=
  ⟨rfl, rfl⟩

/-- V-S7, V-S8, V-R12, V-R13: words whose agent may not move. -/
theorem test_not_enabled :
    exec (.convert 5) fresh = .refused .notEnabled ∧ exec .isr fresh = .refused .notEnabled ∧
      exec .hstep fresh = .refused .notEnabled ∧ exec .init (polling .pNow 1 1) = .refused .notEnabled :=
  ⟨rfl, rfl, rfl, rfl⟩

/-- The first instruction after reset is the one placed for the fetch. -/
theorem test_fetch_word_runs :
    after (step (State.reset.withFetchWord 16 0x0100)) (fun s => (s.initialized, s.schedule)) =
      some (true, []) := by
  have hc : ValidConfig (State.reset.withFetchWord 16 0x0100).cfg := by unfold ValidConfig; decide
  rw [step_eq_performWord (w := 0x0100) (rest := []) hc ⟨rfl, rfl⟩ rfl]
  exact rfl

/-! ## Witnesses of hypotheses -/

theorem fresh_valid : ValidConfig fresh.cfg := by unfold ValidConfig; decide

theorem fresh_unmarked : Unmarked fresh := ⟨rfl, rfl⟩

/-- The invariant holds of the booted block. -/
theorem booted_inv : Inv booted where
  config := fresh_valid
  unmarked := ⟨rfl, rfl⟩
  registers := ⟨by decide, by decide, by decide, by decide⟩
  converter := ⟨by decide, by decide, by decide⟩
  tracker := ⟨by decide, by decide, by decide⟩
  counters := ⟨by decide, by decide, by decide⟩
  poll := trivial
  events := rfl

theorem test_witness_DecodeReadsEncoded :
    (Instr.convert 255).wellFormed = true ∧ (Instr.convert 0).wellFormed = true ∧ Instr.isr.wellFormed = true := by
  decide

theorem test_witness_EncodeRebuildsDecodedWord :
    decode 0x10FF = .ok (.convert 255) ∧ decode 0x2000 = .ok (.advance 0) := ⟨rfl, rfl⟩

/-- Each row's clause at a word of the row, and the last clause at words beside the rows. -/
theorem test_witness_DecodeFollowsOpcodeTable :
    (0x0100 : Word) &&& 0xFFFF = 0x0100 ∧ (0x0200 : Word) &&& 0xFFFF = 0x0200 ∧
      (0x0300 : Word) &&& 0xFFFF = 0x0300 ∧ (0x0400 : Word) &&& 0xFFFF = 0x0400 ∧
      (0x0500 : Word) &&& 0xFFFF = 0x0500 ∧ (0x0600 : Word) &&& 0xFFFF = 0x0600 ∧
      (0x0700 : Word) &&& 0xFFFF = 0x0700 ∧ (0x10FF : Word) &&& 0xFF00 = 0x1000 ∧
      (0x1100 : Word) &&& 0xFFFF = 0x1100 ∧ (0x20FF : Word) &&& 0xFF00 = 0x2000 ∧
      ∀ row ∈ ([(0xFFFF, 0x0100), (0xFFFF, 0x0200), (0xFFFF, 0x0300), (0xFFFF, 0x0400), (0xFFFF, 0x0500),
          (0xFFFF, 0x0600), (0xFFFF, 0x0700), (0xFF00, 0x1000), (0xFFFF, 0x1100), (0xFF00, 0x2000)] :
          List (Word × Word)),
        (0x0800 : Word) &&& row.1 ≠ row.2 ∧ (0x0101 : Word) &&& row.1 ≠ row.2 := by
  simp only [List.forall_mem_cons]
  refine ⟨?_, ?_, ?_, ?_, ?_, ?_, ?_, ?_, ?_, ?_, ⟨?_, ?_⟩, ⟨?_, ?_⟩, ⟨?_, ?_⟩, ⟨?_, ?_⟩, ⟨?_, ?_⟩, ⟨?_, ?_⟩,
    ⟨?_, ?_⟩, ⟨?_, ?_⟩, ⟨?_, ?_⟩, ⟨?_, ?_⟩, by simp⟩ <;> decide

theorem test_witness_ReservedWordRefusesRun :
    (0x1200 : Word).extractLsb' 8 8 ∉
      ([0x01, 0x02, 0x03, 0x04, 0x05, 0x06, 0x07, 0x10, 0x11, 0x20] : List Byte) ∧
    ((0x0101 : Word).extractLsb' 8 8 = 0x01 ∧ (0x0101 : Word).extractLsb' 0 8 ≠ 0 ∧
      (0x11FF : Word).extractLsb' 8 8 = 0x11 ∧ (0x11FF : Word).extractLsb' 0 8 ≠ 0) ∧
    ValidConfig { fresh with schedule := [0x0101] }.cfg ∧ Unmarked { fresh with schedule := [0x0101] } ∧
    { fresh with schedule := [0x0101] }.schedule = 0x0101 :: [] :=
  ⟨by decide, by decide, fresh_valid, fresh_unmarked, rfl⟩

/-- The lines of the clauses with a hypothesis: one without a comment, and two blank ones. -/
theorem test_witness_AssemblerReadsPrintedLine :
    ';' ∉ "POLL ".toList ∧ (∀ c ∈ " \t ".toList, c = ' ' ∨ c = '\t') ∧ ∀ c ∈ "".toList, c = ' ' ∨ c = '\t' := by
  simp

theorem test_witness_StepRunsDecodedOperation :
    ValidConfig { booted with schedule := [0x10AA, 0x1100] }.cfg ∧
      Unmarked { booted with schedule := [0x10AA, 0x1100] } ∧
      { booted with schedule := [0x10AA, 0x1100] }.schedule = 0x10AA :: [0x1100] ∧
      decode 0x10AA = .ok (.convert 0xAA) :=
  ⟨fresh_valid, ⟨rfl, rfl⟩, rfl, rfl⟩

/-- One state for each clause: a recorded fault, a refused run, a step that faults, a step that refuses, a
step that goes on. -/
theorem test_witness_MarksAreRecordedAndFinal :
    { fresh with fault := some .enableBeforeInit }.fault = some .enableBeforeInit ∧
      { fresh with refused := true }.refused = true ∧
      step { fresh with schedule := [0x0200] } = .fault .enableBeforeInit ∧
      (step { fresh with schedule := [0x0700] } = .refused .notEnabled ∧
        Refusal.notEnabled ≠ Refusal.endOfSchedule) ∧
      Unmarked fresh ∧ ∃ t, step { fresh with schedule := [0x0500] } = .next t :=
  ⟨rfl, rfl, rfl, ⟨rfl, by decide⟩, ⟨rfl, rfl⟩, _, rfl⟩

/-- The codes of 40_sampler R124 where the model chooses (log 9): an inexact quotient is rounded down before
`E_CLOCK`, and a C_SAMPLE of 0 is `E_CLOCK`. -/
theorem test_codes_of_unsupported_clocks :
    ({ Config.atReset with fCpu := 249999, peakTimeoutUs := 20000 } : Config).firstError =
        some .E_TIMEOUT_RANGE ∧
      ({ Config.atReset with fCpu := 124999 } : Config).firstError = some .E_CLOCK := by decide

/-- A launch that answers a state and one that does not. -/
theorem test_witness_LaunchAcceptsExactlyValidConfigurations :
    (∃ s, launch .atReset 1000 [0x0100] = .next s) ∧
      launch { Config.atReset with minT := 160 } 1000 [0x0100] =
        .refused (.invalidConfiguration .E_THRESH_ORDER) := by
  unfold launch
  rw [test_ex2_is_valid, test_refuses_threshold_order]
  exact ⟨⟨_, rfl⟩, rfl⟩

theorem test_witness_ParametersNeverChange :
    (∃ t, step { fresh with schedule := [0x20FF] } = .next t) ∧ ValidConfig fresh.cfg :=
  ⟨⟨_, rfl⟩, fresh_valid⟩

theorem test_witness_ResetAndInitEstablishInvariant :
    ValidConfig Config.atReset ∧ ValidConfig fresh.cfg ∧ fresh.hp = .ready ∧ fresh.adie = false :=
  ⟨fresh_valid, fresh_valid, rfl, by decide⟩

theorem test_witness_StepKeepsInvariant :
    Inv { booted with schedule := [0x10AA] } ∧ ∃ t, step { booted with schedule := [0x10AA] } = .next t :=
  ⟨⟨fresh_valid, ⟨rfl, rfl⟩, ⟨by decide, by decide, by decide, by decide⟩, ⟨by decide, by decide, by decide⟩,
    ⟨by decide, by decide, by decide⟩, ⟨by decide, by decide, by decide⟩, trivial, rfl⟩, _, rfl⟩

theorem test_witness_InitConfiguresBlock :
    (polling .pRead2 0 0).hp ≠ .ready ∧ (booted.hp = .ready ∧ booted.adie = true) ∧
      fresh.hp = .ready ∧ fresh.adie = false := by
  decide

theorem test_witness_EnableSetsInterruptEnable :
    (polling .pRead2 0 0).hp ≠ .ready ∧ (fresh.hp = .ready ∧ fresh.initialized = false) ∧
      booted.hp = .ready ∧ booted.initialized = true ∧
      (setInterruptEnable true false { booted with adcsra := 0xB7 }).adif = true ∧ booted.gie = true := by
  decide

theorem test_witness_DisableClearsInterruptEnable :
    (polling .pRead2 0 0).hp ≠ .ready ∧ fresh.hp = .ready := by
  decide

theorem test_witness_ConvertLatchesSample :
    (¬(fresh.aden = true ∧ fresh.convRunning = true)) ∧ booted.aden = true ∧ booted.convRunning = true := by
  decide

theorem test_witness_OverrunServicesLatestSample :
    booted.aden = true ∧ booted.convRunning = true ∧ booted.freeRunning = true ∧ booted.adie = true ∧
      booted.gie = true := by
  decide

theorem test_witness_DisabledInterruptHidesSamples :
    { booted with adcsra := 0xA7 }.adie = false ∧ { booted with adcsra := 0xA7 }.aden = true ∧
      { booted with adcsra := 0xA7 }.convRunning = true := by
  decide

theorem test_witness_SelectedClockSamplesAt104us :
    Config.atReset.prescaler = .selected ∧ Config.atReset.passes .E_CLOCK = true ∧
      Config.atReset.fCpu = 16000000 := by
  decide

theorem test_witness_ValidConstantsFit : ValidConfig Config.atReset := fresh_valid

theorem test_witness_DebounceRoundsDown : ValidConfig { Config.atReset with debounceMs := 4259 } := by
  unfold ValidConfig; decide

theorem test_witness_IsrTakenExactlyWhenEnabled :
    ¬(booted.adif = true ∧ booted.adie = true ∧ booted.gie = true) ∧ (sampled 160 0 0).adif = true := by
  decide

theorem test_witness_IsrRunsTrackerAtomically :
    (sampled 160 0 170).adif = true ∧ (sampled 160 0 170).adie = true ∧ (sampled 160 0 170).gie = true ∧
      ∃ t, exec .isr (sampled 160 0 170) = .next t ∧ ∃ u, exec (.convert 0) t = .next u :=
  ⟨by decide, by decide, by decide, _, rfl, _, rfl⟩

/-- The clauses at MAX_T and just below it. -/
theorem test_witness_IsrInIdle :
    (sampled 160 0 160).adif = true ∧ (sampled 160 0 160).adie = true ∧ (sampled 160 0 160).gie = true ∧
      (sampled 160 0 160).cfg.maxT.toNat ≤ (sampled 160 0 160).runningMax.toNat ∧
      (sampled 160 0 160).countdown = 0 ∧
      (sampled 160 0 160).runningMax.toNat ≤ (sampled 160 0 160).adch.toNat ∧
      (sampled 160 0 159).adch.toNat < (sampled 160 0 159).runningMax.toNat := by
  decide

/-- The clauses at the peak, at both conjuncts of the DETECT condition, and one beside each. -/
theorem test_witness_IsrWhileTracking :
    (sampled 176 1 176).countdown ≠ 0 ∧ (sampled 176 1 176).runningMax.toNat ≤ (sampled 176 1 176).adch.toNat ∧
      (sampled 176 1 96).cfg.peakDelta = 80 ∧
      ((96 : Byte).toNat < (176 : Byte).toNat ∧ (96 : Byte).toNat ≤ Config.atReset.minT.toNat ∧
        Config.atReset.peakDelta ≤ (176 : Byte).toNat - (96 : Byte).toNat) ∧
      ¬(97 : Byte).toNat ≤ Config.atReset.minT.toNat ∧
      ¬Config.atReset.peakDelta ≤ (175 : Byte).toNat - (96 : Byte).toNat ∧
      (sampled 176 1 96).adif = true ∧ (sampled 176 1 96).adie = true ∧ (sampled 176 1 96).gie = true ∧
      (sampled 176 1 96).cfg.maxT.toNat ≤ (sampled 176 1 96).runningMax.toNat := by
  decide

/-- Debounce at its last count, from which the tracker leaves it. -/
theorem test_witness_IsrInDebounce :
    (sampled 159 1 255).adif = true ∧ (sampled 159 1 255).adie = true ∧ (sampled 159 1 255).gie = true ∧
      (sampled 159 1 255).runningMax.toNat < (sampled 159 1 255).cfg.maxT.toNat ∧
      (trackerStep 255 (sampled 159 1 255)).runningMax = Config.atReset.maxT := by
  decide

/-- One sample short of the end of debounce, and the end: DEB_SAMPLES is 9. -/
theorem test_witness_DebounceLastsDebSamplesPlusOne :
    ValidConfig (sampled 159 10 0).cfg ∧ (sampled 159 10 0).runningMax = Config.atReset.debBaseByte ∧
      (sampled 159 10 0).countdown = Config.atReset.debCdByte ∧
      (List.replicate 9 (255 : Byte)).length < Config.atReset.debSamples + 1 ∧
      (List.replicate 10 (255 : Byte)).length = Config.atReset.debSamples + 1 :=
  ⟨fresh_valid, by decide, by decide, by decide, by decide⟩

/-- One sample short of the timeout, with a clap still to come, and the timeout: PEAK_TIMEOUT is 3. -/
theorem test_witness_PeakTimeoutLastsItsSamples :
    ValidConfig (sampled 170 3 0).cfg ∧
      (sampled 170 3 0).cfg.maxT.toNat ≤ (sampled 170 3 0).runningMax.toNat ∧
      (sampled 170 3 0).countdown = Config.atReset.peakTimeoutByte ∧
      (∀ x ∈ ([91, 150, 169] : List Byte),
        x.toNat < (sampled 170 3 0).runningMax.toNat ∧ detects x (sampled 170 3 0) = false) ∧
      ([91, 150] : List Byte).length < Config.atReset.peakTimeout ∧
      ([91, 150, 169] : List Byte).length = Config.atReset.peakTimeout ∧
      (90 : Byte).toNat < (sampled 170 3 0).runningMax.toNat ∧ detects 90 (sampled 170 3 0) = true :=
  ⟨fresh_valid, by decide, by decide, by decide, by decide, by decide, by decide, by decide⟩

theorem test_witness_SustainedSignalCountsNothing :
    ∀ x ∈ ([97, 170, 255] : List Byte), (sampled 170 3 0).cfg.minT.toNat < x.toNat := by
  decide

theorem test_witness_QuietProgramReportsOnlyNoEvent :
    ValidConfig fresh.cfg ∧ Quiet fresh ∧
      [0x0100, 0x109F, 0x0400, 0x0700].all (quietWord fresh.cfg) = true ∧
      ∃ t, perform [0x0100, 0x109F, 0x0400, 0x0700] fresh = .next t :=
  ⟨fresh_valid,
    ⟨by decide, by decide, by decide, by decide, .inl rfl, by decide⟩, by decide, _, rfl⟩

theorem test_witness_SampledProgramTracksEverySample :
    ValidConfig booted.cfg ∧ Unmarked booted ∧ booted.aden = true ∧ booted.convRunning = true ∧
      booted.freeRunning = true ∧ booted.adie = true ∧ booted.gie = true :=
  ⟨fresh_valid, ⟨rfl, rfl⟩, by decide, by decide, by decide, by decide, by decide⟩

theorem test_witness_BootArmsSampler :
    ValidConfig fresh.cfg ∧ Unmarked fresh ∧ fresh.hp = .ready ∧ fresh.adie = false :=
  ⟨fresh_valid, fresh_unmarked, rfl, by decide⟩

theorem test_witness_WaitAdvancesClock : ValidConfig fresh.cfg ∧ Unmarked fresh :=
  ⟨fresh_valid, fresh_unmarked⟩

/-- Two conversions C_SAMPLE apart, and a poll after one millisecond of 16000 cycles. -/
def timed : List TimedWord := [⟨0, 0x1005⟩, ⟨1664, 0x1006⟩, ⟨16000, 0x2001⟩, ⟨16000, 0x0400⟩]

theorem test_witness_RealTimeClockReadsElapsedTime :
    RealTime Config.atReset timed ∧ timed = [⟨0, 0x1005⟩] ++ ⟨1664, 0x1006⟩ :: timed.drop 2 ∧
      isAdvance 0x1006 = false ∧ (∃ m, perform (timedWords [⟨0, 0x1005⟩]) booted = .next m) ∧
      ∃ t, perform (timedWords timed) booted = .next t :=
  ⟨⟨by decide, by decide, by decide, by decide⟩, rfl, by decide, ⟨_, rfl⟩, _, rfl⟩

/-- Conversions on time without an `ADVANCE` are in real time for less than a millisecond only. -/
theorem test_real_time_needs_the_clock :
    clockOnTime .atReset 0 0 [⟨0, 0x1005⟩, ⟨15999, 0x1100⟩] = true ∧
      clockOnTime .atReset 0 0 [⟨0, 0x1005⟩, ⟨16000, 0x1100⟩] = false := by decide

theorem test_witness_SeiUnmasksInterrupt :
    (polling .pNow 1 1).hp ≠ .ready ∧ (sampled 160 0 170).hp = .ready ∧ (sampled 160 0 170).adif = true ∧
      (sampled 160 0 170).adie = true := by
  decide

theorem test_witness_CliMasksInterrupt :
    (polling .pNow 1 1).hp ≠ .ready ∧ booted.hp = .ready ∧ booted.aden = true ∧ booted.convRunning = true := by
  decide

/-- Both phases inside the critical section, with a word of another agent and the host's own. -/
theorem test_witness_CriticalSectionExcludesInterrupt :
    Inv { polling .pCsRead 1 1 with gie := false } ∧ Inv { polling .pCsExit 1 1 with gie := false } ∧
      (∃ t, exec (.convert 50) { polling .pCsRead 1 1 with gie := false } = .next t) ∧
      ∃ t, exec .hstep { polling .pCsExit 1 1 with gie := false } = .next t :=
  ⟨⟨fresh_valid, ⟨rfl, rfl⟩, ⟨by decide, by decide, by decide, by decide⟩, ⟨by decide, by decide, by decide⟩,
      ⟨by decide, by decide, by decide⟩, ⟨by decide, by decide, by decide⟩, ⟨by decide, rfl⟩, rfl⟩,
    ⟨fresh_valid, ⟨rfl, rfl⟩, ⟨by decide, by decide, by decide, by decide⟩, ⟨by decide, by decide, by decide⟩,
      ⟨by decide, by decide, by decide⟩, ⟨by decide, by decide, by decide⟩, ⟨by decide, rfl⟩, rfl⟩,
    ⟨_, rfl⟩, _, rfl⟩

theorem test_witness_PollReadsClapCount :
    (polling .pNow 1 1).hp ≠ .ready ∧ (polling .ready 2 1).hp = .ready ∧ (polling .ready 1 1).hp = .ready := by
  decide

theorem test_witness_SecondReadOrNoEvent :
    (polling .pRead2 1 1).hp = .pRead2 ∧ (polling .pRead2 1 1).clapCount ≠ 0 ∧
      (polling .pRead2 0 0).hp = .pRead2 ∧ (polling .pRead2 0 0).clapCount = 0 := by
  decide

/-- One report below the overflow, and the overflow with the invariant. -/
theorem test_witness_InProgressOrOverflow :
    (polling .pInprog 126 125).hp = .pInprog ∧ (polling .pInprog 126 125).processedClaps ≠ 126 ∧
      (polling .pInprog 127 126).processedClaps = 126 ∧
      Inv { polling .pInprog 127 126 with tmpC1 := 127 } :=
  ⟨rfl, by decide, by decide,
    fresh_valid, ⟨rfl, rfl⟩, ⟨by decide, by decide, by decide, by decide⟩, ⟨by decide, by decide, by decide⟩,
    ⟨by decide, by decide, by decide⟩, ⟨by decide, by decide, by decide⟩, ⟨by decide, by decide⟩, rfl⟩

theorem test_witness_CriticalSectionMicroSteps :
    (polling .pCsEnter 1 1).hp = .pCsEnter ∧ (polling .pCsRead 1 1).hp = .pCsRead ∧
      (polling .pCsExit 1 1).hp = .pCsExit := by
  decide

/-- The comparison at 501 and at 500 milliseconds. -/
theorem test_witness_SeriesTimeoutComparison :
    (polling .pNow 1 1).hp = .pNow ∧ (polling .pCmp 1 1).hp = .pCmp ∧
      Config.atReset.seriesTimeoutMs.toNat < ((1501 : Dword).toNat + 2 ^ 32 - (1000 : Dword).toNat) % 2 ^ 32 ∧
      ((1500 : Dword).toNat + 2 ^ 32 - (1000 : Dword).toNat) % 2 ^ 32 ≤ Config.atReset.seriesTimeoutMs.toNat := by
  decide

theorem test_witness_FinishMicroSteps :
    (polling .pSnap 1 1).hp = .pSnap ∧ (polling .pSnap 1 1).cfg.atomicFinish = false ∧
      (polling .pRmwRead 1 1).hp = .pRmwRead ∧ (polling .pRmwWrite 1 1).hp = .pRmwWrite ∧
      (polling .pFinDone 1 1).hp = .pFinDone := by
  decide

/-- The booted block with ATOMIC_FINISH at the snapshot. -/
def atomicSnap : State :=
  { polling .pSnap 2 2 with cfg := { Config.atReset with atomicFinish := true } }

theorem test_witness_AtomicFinishMicroStep :
    atomicSnap.hp = .pSnap ∧ atomicSnap.cfg.atomicFinish = true := by
  decide

theorem test_witness_HostWordsFollowPhase :
    (polling .pRead1 1 1).hp ≠ .ready ∧ (polling .pFinDone 1 1).hp ≠ .ready ∧ booted.hp = .ready := by
  decide

theorem test_witness_WholePollEmitsOneEvent :
    ValidConfig booted.cfg ∧ Unmarked booted ∧ booted.hp = .ready :=
  ⟨fresh_valid, ⟨rfl, rfl⟩, rfl⟩

/-- The clock exactly SERIES_TIMEOUT_MS after the last clap (V-R3). -/
theorem test_witness_WholePollIsIdempotent :
    ValidConfig booted.cfg ∧ Unmarked booted ∧ (polling .ready 1 1).hp = .ready ∧
      (polling .ready 1 1).clapCount = (polling .ready 1 1).processedClaps ∧
      ¬timedOut Config.atReset 500 (polling .ready 1 1).envMs :=
  ⟨fresh_valid, ⟨rfl, rfl⟩, rfl, rfl, by unfold timedOut; decide⟩

theorem test_witness_WholePollReportsNextClap :
    ValidConfig (polling .ready 126 125).cfg ∧ Unmarked (polling .ready 126 125) ∧
      (polling .ready 126 125).hp = .ready ∧
      (polling .ready 126 125).processedClaps.toNat < (polling .ready 126 125).clapCount.toNat ∧
      (polling .ready 126 125).processedClaps ≠ 126 ∧
      (polling .ready 127 126).processedClaps.toNat < (polling .ready 127 126).clapCount.toNat ∧
      (polling .ready 127 126).processedClaps = 126 :=
  ⟨fresh_valid, ⟨rfl, rfl⟩, rfl, by decide, by decide, by decide, by decide⟩

/-- The clock one millisecond past SERIES_TIMEOUT_MS (V-R4). -/
theorem test_witness_WholePollFinishesSeries :
    ValidConfig booted.cfg ∧ Unmarked { polling .ready 1 1 with lastClap := 499 } ∧
      (polling .ready 1 1).hp = .ready ∧ (polling .ready 1 1).clapCount = (polling .ready 1 1).processedClaps ∧
      (polling .ready 1 1).clapCount ≠ 0 ∧ timedOut Config.atReset 499 (polling .ready 1 1).envMs :=
  ⟨fresh_valid, ⟨rfl, rfl⟩, rfl, rfl, by decide, by unfold timedOut; decide⟩

/-- A clap waiting at a phase of a finishing poll: the tracker at (200, 3), the sample 50 (95_test_vectors
section 6, race windows). -/
def raced (phase : HostPhase) : State :=
  { polling phase 1 1 with runningMax := 200, countdown := 3, adch := 50, adcsra := 0xBF }

theorem raced_pending (phase : HostPhase) : ClapPending (raced phase) where
  enabled := ⟨by cases phase <;> decide, by cases phase <;> decide, rfl⟩
  tracking := by cases phase <;> decide
  falling := by cases phase <;> decide
  qualifies := by cases phase <;> decide
  unsaturated := by cases phase <;> decide

/-- Each phase, the clock of the two comparisons one millisecond past the timeout. -/
theorem test_witness_FinishRaceOutcomes :
    ValidConfig (raced .pNow).cfg ∧ Unmarked (raced .pNow) ∧ (raced .pNow).cfg.atomicFinish = false ∧
      ClapPending (raced .pNow) ∧ ClapPending (raced .pCsEnter) ∧
      ((raced .pNow).hp = .pNow ∧ timedOut Config.atReset 499 (raced .pNow).envMs) ∧
      ((raced .pCmp).hp = .pCmp ∧ timedOut Config.atReset 499 1000) ∧ (raced .pSnap).hp = .pSnap ∧
      (raced .pNow).processedClaps.toNat ≤ (raced .pNow).clapCount.toNat ∧
      { raced .pRmwWrite with tmpR := 1 }.tmpR = (raced .pRmwWrite).processedClaps :=
  ⟨fresh_valid, ⟨rfl, rfl⟩, rfl, raced_pending _, raced_pending _, ⟨rfl, by unfold timedOut; decide⟩,
    ⟨rfl, by unfold timedOut; decide⟩, rfl, by decide, rfl⟩

theorem test_witness_AtomicFinishLosesNoClap :
    Inv atomicSnap ∧ atomicSnap.cfg.atomicFinish = true ∧
      (∃ t, exec .hstep atomicSnap = .next t ∧ t.clapCount.toNat < atomicSnap.clapCount.toNat) ∧
      Instr.hstep ≠ .init :=
  ⟨⟨by unfold ValidConfig; decide, ⟨rfl, rfl⟩, ⟨by decide, by decide, by decide, by decide⟩,
      ⟨by decide, by decide, by decide⟩, ⟨by decide, by decide, by decide⟩, ⟨by decide, by decide, by decide⟩,
      by show 1 ≤ atomicSnap.clapCount.toNat; decide, rfl⟩,
    rfl, ⟨_, rfl, by decide⟩, by decide⟩

theorem test_witness_EventBytes :
    (1 ≤ (126 : Byte).toNat ∧ (126 : Byte).toNat ≤ 126) ∧ (127 : Byte).toNat ≤ 127 ∧
      eventInRange .overflow = true ∧ eventInRange (.seriesFinished 127) = true ∧
      Event.toInt8 .overflow = Event.toInt8 (.seriesFinished 127) := by
  decide

theorem test_witness_EventsOnlyAppended :
    (∃ t, exec .hstep (polling .pRead2 0 0) = .next t) ∧ ∃ t, exec .isr (sampled 160 0 170) = .next t :=
  ⟨⟨_, rfl⟩, _, rfl⟩

theorem test_witness_OnlyOwnersWrite :
    (∃ t, exec .isr (sampled 176 3 96) = .next t) ∧ (∃ t, exec (.convert 1) booted = .next t) ∧
      (∃ t, exec .init fresh = .next t) ∧ (∃ t, exec .sei fresh = .next t) ∧
      ∃ t, exec .hstep (polling .pCsRead 1 1) = .next t :=
  ⟨⟨_, rfl⟩, ⟨_, rfl⟩, ⟨_, rfl⟩, ⟨_, rfl⟩, _, rfl⟩

/-- Two states with different dead temporaries, one poll step before their end. -/
theorem test_witness_DeadTemporariesUnobservable :
    SameButDeadTemps { polling .pFinDone 1 1 with tmpC1 := 1, schedule := [0x0700] }
      { polling .pFinDone 1 1 with tmpC1 := 2, schedule := [0x0700] } :=
  ⟨rfl, rfl⟩

theorem test_witness_HostRegisterWrites :
    (0x48 : Byte)[7] = false ∧ (0xF7 : Byte)[4] = true ∧ (0x87 : Byte)[4] = false ∧ (0xC7 : Byte)[6] = true ∧
      (0x87 : Byte)[7] = true ∧ (0x87 : Byte)[6] = false := by
  decide

/-- The sizes and addresses just outside the register space. -/
theorem test_witness_RegisterSpaceAndCells :
    (2 ≠ 1 ∧ 0 ≠ 1) ∧ 0x77 < 0x78 ∧ 0x7C < 0x7D := by
  decide

end Sys2Proof.Tests
end

/-! PROOFS of the family 10_state: reset, host register writes, marks, ownership, dead temporaries, the invariant. -/

namespace Sys2Proof.Machine

/-! ## What a read of ADCSRA packs -/

/-- A read of ADCSRA packs its fields, with `conv_running` for ADSC (10_state R26, 30_encoding R80). -/
theorem readAdcsra_eq_packAdcsra (s : State) :
    s.readAdcsra = packAdcsra s.aden s.convRunning s.adate s.adif s.adie s.adps := by
  refine BitVec.eq_of_getElem_eq fun j hj => ?_
  rw [State.readAdcsra, getElem_setBit _ _ hj, ← BitVec.getLsbD_eq_getElem (x := packAdcsra ..)]
  simp only [packAdcsra, State.adsc, State.aden, State.adate, State.adif, State.adie, State.adps,
    BitVec.getLsbD_append]
  interval_cases j <;> simp

/-- ADPS lies below the two bits that a write of ADCSRA treats on their own. -/
theorem writeAdcsra_adps (v : Byte) (s : State) : (writeAdcsra v s).adps = v.extractLsb' 0 3 := by
  refine BitVec.eq_of_getElem_eq fun j hj => ?_
  simp only [State.adps, writeAdcsra, BitVec.getElem_extractLsb', Nat.zero_add]
  rw [BitVec.getLsbD_eq_getElem (by omega), BitVec.getLsbD_eq_getElem (by omega),
    getElem_setBit _ _ (by omega), getElem_setBit _ _ (by omega), if_neg (by omega), if_neg (by omega)]

/-- Settles O59: four accesses compute; the write of ADCSRA is read off the fields that it leaves. -/
theorem hostRegisterWrites : Obligations.HostRegisterWrites := by
  intro v s
  refine ⟨rfl, rfl, rfl, rfl, writeAdcsra v s, rfl, writeAdcsra_frame v s, ?_⟩
  obtain ⟨haden, hadate, hadif, hadie, hrun⟩ := writeAdcsra_fields v s
  have hread : hostReadAt 0x7A 1 (writeAdcsra v s) = .ok (writeAdcsra v s).readAdcsra := rfl
  refine ⟨haden, hadate, hadie, writeAdcsra_adps v s, ?_, ?_, ?_, ?_, ?_, ?_⟩
  · intro h4; simp [hadif, h4]
  · intro h4; simp [hadif, h4]
  · intro h7; simp [hrun, h7]
  · intro h7 h6; simp [hrun, h7, h6]
  · intro h7 h6; simp [hrun, h7, h6]
  · rw [hread, readAdcsra_eq_packAdcsra]

theorem validConfig_atReset : ValidConfig Config.atReset := by
  unfold ValidConfig; decide

/-- Settles O12: reset is a record of the table's values, and ADCSRA reads 0 because both of its parts do. -/
theorem resetValues : Obligations.ResetValues := by
  refine ⟨fun c ms => ?_, Config.atReset, Config.envMsAtReset, validConfig_atReset, rfl⟩
  have hread : (State.resetWith c ms).readAdcsra = 0 := by
    simp [State.readAdcsra, State.adsc, State.resetWith, setBit]
  exact ⟨rfl, rfl, hread, rfl, rfl, rfl, rfl, rfl, rfl, rfl, rfl, rfl, rfl, rfl, rfl, rfl, rfl, rfl, rfl⟩

/-! ## Marks -/

theorem step_of_blocked {s : State} {o : Result} (h : blocked s = some o) : step s = o := by
  simp [step, h]

theorem blocked_of_fault {s : State} {r : Fault} (h : s.fault = some r) : blocked s = some (.fault r) := by
  simp [blocked, h]

theorem recordOutcome_refused {s : State} {r : Refusal} (h : r ≠ .endOfSchedule) :
    recordOutcome s (.refused r) = { s with refused := true } := by
  cases r with
  | endOfSchedule => exact absurd rfl h
  | _ => rfl

theorem recordOutcome_keeps_refused {s : State} {o : Result} (h : s.refused = true) (ho : ∀ t, o ≠ .next t) :
    (recordOutcome s o).refused = true := by
  cases o with
  | next t => exact absurd rfl (ho t)
  | fault r => exact h
  | refused r =>
    cases r with
    | endOfSchedule => exact h
    | _ => rfl

theorem step_ne_next_of_refused {s : State} (h : s.refused = true) (t : State) : step s ≠ .next t := fun ht => by
  obtain ⟨-, ⟨-, hu⟩, -⟩ := step_next ht
  simp [h] at hu

theorem unmarked_of_step {s t : State} (h : step s = .next t) : Unmarked t := by
  obtain ⟨-, ⟨hf, hr⟩, w, rest, i, -, -, hexec⟩ := step_next h
  obtain ⟨-, hf', hr', -⟩ := exec_frame hexec
  exact ⟨hf'.trans hf, hr'.trans hr⟩

/-- Settles O9, clause by clause: a marked state is blocked, and `recordOutcome` writes the mark of the outcome. -/
theorem marksAreRecordedAndFinal : Obligations.MarksAreRecordedAndFinal := by
  refine fun s => ⟨fun r hr => ?_, fun hr => ?_, fun r hr => ?_, fun r hr hne => ?_, fun _ t => unmarked_of_step⟩
  · have hstep := step_of_blocked (blocked_of_fault hr)
    exact ⟨hstep, by simp [stepRecorded, hstep, recordOutcome]⟩
  · exact ⟨step_ne_next_of_refused hr, recordOutcome_keeps_refused hr (step_ne_next_of_refused hr)⟩
  · simp [stepRecorded, hr, recordOutcome]
  · simp [stepRecorded, hr, recordOutcome_refused hne]

/-! ## The branches of the conditional micro-steps -/

/-- P_READ1 with a clap that is not yet reported (42_reducer R191). -/
theorem pRead1_of_lt {s : State} (h : s.processedClaps < s.clapCount) :
    pRead1 s = { s with tmpC1 := s.clapCount, hp := .pInprog } := by
  simp [pRead1, memRead1, h]

/-- P_READ1 with every clap reported (42_reducer R191). -/
theorem pRead1_of_not_lt {s : State} (h : ¬ s.processedClaps < s.clapCount) :
    pRead1 s = { s with tmpC1 := s.clapCount, hp := .pRead2 } := by
  simp only [pRead1, memRead1, h, if_false]

/-- P_READ2 with a clap counted (42_reducer R192). -/
theorem pRead2_of_pos {s : State} (h : 0 < s.clapCount) :
    pRead2 s = { s with tmpC2 := s.clapCount, hp := .pCsEnter } := if_pos h

/-- P_READ2 with no clap counted (42_reducer R192). -/
theorem pRead2_of_not_pos {s : State} (h : ¬ 0 < s.clapCount) :
    pRead2 s = emit .noEvent { s with tmpC2 := s.clapCount } := if_neg h

/-- P_INPROG at the overflow (42_reducer R194). -/
theorem pInprog_of_eq {s : State} (h : s.processedClaps + 1 = 127) :
    pInprog s = emit .overflow { s with clapCount := 0, processedClaps := 0 } := if_pos h

/-- P_INPROG below the overflow (42_reducer R193). -/
theorem pInprog_of_ne {s : State} (h : s.processedClaps + 1 ≠ 127) :
    pInprog s = emit (.seriesInProgress (s.processedClaps + 1))
      { s with processedClaps := s.processedClaps + 1 } := if_neg h

/-- P_CMP of a series that has timed out (42_reducer R201). -/
theorem pCmp_of_timedOut {s : State} (h : timedOut s.cfg s.tmpT s.tmpNow) :
    pCmp s = { s with hp := .pSnap } := if_pos h

/-- P_CMP of a series that goes on (42_reducer R201). -/
theorem pCmp_of_not_timedOut {s : State} (h : ¬ timedOut s.cfg s.tmpT s.tmpNow) :
    pCmp s = emit .noEvent s := if_neg h

/-- P_SNAP under ATOMIC_FINISH (42_reducer R206). -/
theorem pSnap_of_atomic {s : State} (h : s.cfg.atomicFinish = true) :
    pSnap s = emit (.seriesFinished s.clapCount)
      { s with clapCount := s.clapCount - s.processedClaps, tmpS := s.clapCount, processedClaps := 0 } :=
  if_pos h

/-- P_SNAP without ATOMIC_FINISH (42_reducer R202). -/
theorem pSnap_of_not_atomic {s : State} (h : ¬ s.cfg.atomicFinish = true) :
    pSnap s = { s with tmpS := s.clapCount, hp := .pRmwRead } := if_neg h

/-! ## Who writes what -/

/-- A micro-step of `poll()` writes the two counters, the phase, the temporaries, `gie` and the output trace. -/
theorem microStep_writes (s : State) :
    microStep s = { s with
      clapCount := (microStep s).clapCount, processedClaps := (microStep s).processedClaps
      hp := (microStep s).hp, gie := (microStep s).gie, events := (microStep s).events
      tmpC1 := (microStep s).tmpC1, tmpC2 := (microStep s).tmpC2, tmpT := (microStep s).tmpT
      tmpNow := (microStep s).tmpNow, tmpS := (microStep s).tmpS, tmpR := (microStep s).tmpR
      tmpG := (microStep s).tmpG } := by
  unfold microStep
  cases s.hp with
  | pRead2 => simp only [pRead2]; split <;> rfl
  | pInprog => simp only [pInprog]; split <;> rfl
  | pCmp => simp only [pCmp]; split <;> rfl
  | pSnap => simp only [pSnap]; split <;> rfl
  | ready | pRead1 | pCsEnter | pCsRead | pCsExit | pNow | pRmwRead | pRmwWrite | pFinDone => rfl

/-- A DETECT counts one clap, up to 127 (41_tracker R155, R156). -/
theorem detectClap_clapCount (s : State) :
    (detectClap s).clapCount = if s.clapCount < 127 then s.clapCount + 1 else s.clapCount := rfl

/-- A tracker step leaves the count, or adds one clap to a count below its saturation (41_tracker R156). -/
theorem trackerStep_clapCount (input : Byte) (s : State) :
    (trackerStep input s).clapCount = s.clapCount ∨
      s.clapCount.toNat < 127 ∧ (trackerStep input s).clapCount.toNat = s.clapCount.toNat + 1 := by
  obtain ⟨-, he⟩ | ⟨-, -, he⟩ | ⟨-, -, -, he⟩ | ⟨-, -, -, -, he⟩ | ⟨-, -, -, -, he⟩ :=
    trackerStep_cases input s
  case inr.inr.inr.inl =>
    rw [he, detectClap_clapCount]
    split
    · right; bv_omega
    · exact .inl rfl
  all_goals (rw [he]; exact .inl rfl)

/-- The service routine runs the tracker on ADCH (40_sampler R120). -/
theorem serviceSample_eq (s : State) : serviceSample s = trackerStep s.adch s := rfl

/-- `ISR` writes ADIF and the tracker's cells; it leaves `gie` at the 1 that it needs. -/
theorem execIsr_writes {s t : State} (h : execIsr s = .next t) :
    t = { s with
      adcsra := t.adcsra, runningMax := t.runningMax, countdown := t.countdown
      clapCount := t.clapCount, lastClap := t.lastClap } ∧
    (t.clapCount = s.clapCount ∨ t.clapCount.toNat = s.clapCount.toNat + 1) := by
  obtain ⟨-, -, hgie, rfl⟩ := execIsr_next h
  rw [serviceSample_eq]
  constructor
  · rw [trackerStep_frame]; simp [interruptReturn, interruptEnter, setAdif, hgie]
  · exact (trackerStep_clapCount _ (interruptEnter s)).imp_right And.right

/-- Settles O57: each operation's next state is the old one with that operation's own fields replaced. -/
theorem onlyOwnersWrite : Obligations.OnlyOwnersWrite := by
  intro i s t h
  cases i with
  | init => obtain ⟨-, -, rfl⟩ := execInit_next h; simp [initRegisters_eq]
  | enable => obtain ⟨-, -, rfl⟩ := execEnable_next h; simp [setInterruptEnable_eq]
  | disable => obtain ⟨-, rfl⟩ := execDisable_next h; simp [setInterruptEnable_eq]
  | poll => obtain ⟨-, rfl⟩ := execPoll_next h; simp [pRead1]
  | sei => obtain ⟨-, rfl⟩ := execSei_next h; simp
  | cli => obtain ⟨-, rfl⟩ := execCli_next h; simp
  | hstep => obtain ⟨-, rfl⟩ := execHstep_next h; rw [microStep_writes]; simp
  | convert v => obtain ⟨-, -, rfl⟩ := execConvert_next h; simp [completeConversion]
  | isr =>
    obtain ⟨hw, hc⟩ := execIsr_writes h
    rw [hw]; simp [hc]
  | advance k => rw [execAdvance_next h]; simp

/-- A micro-step that emits returns the host to Ready (42_reducer R207). -/
theorem microStep_events (s : State) :
    (microStep s).events = s.events ∨
      (microStep s).hp = .ready ∧ ∃ e, (microStep s).events = s.events ++ [e] := by
  unfold microStep
  cases s.hp with
  | pRead2 => simp only [pRead2]; split <;> simp
  | pInprog => simp only [pInprog]; split <;> simp [memWrite1]
  | pCmp => simp only [pCmp]; split <;> simp
  | pSnap => simp only [pSnap]; split <;> simp [memWrite1]
  | pFinDone => simp [pFinDone]
  | ready | pRead1 | pCsEnter | pCsRead | pCsExit | pNow | pRmwRead | pRmwWrite => exact .inl rfl

/-- Settles O56: only `HSTEP` owns the trace, and a micro-step appends an event only as it returns to Ready. -/
theorem eventsOnlyAppended : Obligations.EventsOnlyAppended := by
  intro i s t h
  by_cases hi : i = .hstep
  · subst hi
    obtain ⟨-, rfl⟩ := execHstep_next h
    exact (microStep_events s).imp_right fun ⟨hready, happend⟩ => ⟨rfl, hready, happend⟩
  · obtain ⟨-, -, -, -, -, -, -, -, -, -, -, hevents, -⟩ := onlyOwnersWrite i s t h
    exact .inl (hevents hi)

/-! ## Operations that do not know the temporaries -/

/-- The outcome with `f` applied to its next state, if there is one. -/
def mapNext (f : State → State) : Result → Result
  | .next s => .next (f s)
  | .fault r => .fault r
  | .refused r => .refused r

theorem mapNext_next (f : State → State) (s : State) : mapNext f (.next s) = .next (f s) := rfl

theorem mapNext_whenEnabled (f : State → State) (b : Bool) (o : Result) :
    mapNext f (whenEnabled b o) = whenEnabled b (mapNext f o) := by
  cases b <;> rfl

theorem trackerStep_clearTemps (input : Byte) (s : State) :
    trackerStep input (clearTemps s) = clearTemps (trackerStep input s) := by
  have hdet : detects input (clearTemps s) = detects input s := rfl
  simp only [trackerStep, hdet, apply_ite clearTemps]
  rfl

/-- No operation but the two of `poll()` reads or writes a temporary. -/
theorem exec_clearTemps {i : Instr} (hp : i ≠ .poll) (hh : i ≠ .hstep) (s : State) :
    exec i (clearTemps s) = mapNext clearTemps (exec i s) := by
  cases i with
  | init =>
    simp only [exec, execInit, mapNext_whenEnabled, apply_ite (mapNext clearTemps)]
    rfl
  | enable =>
    simp only [exec, execEnable, mapNext_whenEnabled, apply_ite (mapNext clearTemps),
      setInterruptEnable_eq]
    rfl
  | disable =>
    simp only [exec, execDisable, mapNext_whenEnabled, setInterruptEnable_eq]
    rfl
  | sei => simp only [exec, execSei, mapNext_whenEnabled]; rfl
  | cli => simp only [exec, execCli, mapNext_whenEnabled]; rfl
  | convert v => simp only [exec, execConvert, mapNext_whenEnabled]; rfl
  | isr =>
    have hservice : serviceSample (interruptEnter (clearTemps s)) =
        clearTemps (serviceSample (interruptEnter s)) := trackerStep_clearTemps s.adch (interruptEnter s)
    simp only [exec, execIsr, mapNext_whenEnabled, mapNext_next, hservice]
    rfl
  | advance k => rfl
  | poll => exact absurd rfl hp
  | hstep => exact absurd rfl hh

/-! ## Outcomes that agree -/

/-- Two outcomes that differ at most in temporaries that no later micro-step reads. -/
def OutcomesAgree (o p : Result) : Prop :=
  match o, p with
  | .next a, .next b => SameButDeadTemps a b
  | .fault r, .fault q => r = q
  | .refused r, .refused q => r = q
  | _, _ => False

theorem outcomesAgree_whenEnabled {b : Bool} {o p : Result} (h : b = true → OutcomesAgree o p) :
    OutcomesAgree (whenEnabled b o) (whenEnabled b p) := by
  cases b with
  | false => rfl
  | true => exact h rfl

/-- Outcomes that clear to the same agree, where their next states still agree on the live temporaries. -/
theorem outcomesAgree_of_mapNext {o p : Result} (h : mapNext clearTemps o = mapNext clearTemps p)
    (hl : ∀ s t, o = .next s → p = .next t → liveTempsAgree s t) : OutcomesAgree o p := by
  cases o <;> cases p <;> simp only [mapNext, Host.Outcome.next.injEq, reduceCtorEq] at h
  case next.next s t => exact ⟨h, hl s t rfl rfl⟩
  case fault.fault r q => exact Host.Outcome.fault.inj h
  case refused.refused r q => exact Host.Outcome.refused.inj h

/-! ## States with the same cleared state -/

/-- `s` with the temporaries of `x`. -/
def withTemps (x s : State) : State :=
  { s with
    tmpC1 := x.tmpC1, tmpC2 := x.tmpC2, tmpT := x.tmpT, tmpNow := x.tmpNow
    tmpS := x.tmpS, tmpR := x.tmpR, tmpG := x.tmpG }

theorem eq_withTemps {a b : State} (h : clearTemps a = clearTemps b) : b = withTemps b a := by
  calc b = withTemps b (clearTemps b) := rfl
    _ = withTemps b (clearTemps a) := by rw [h]
    _ = withTemps b a := rfl

theorem sameButDeadTemps_setSchedule {a b : State} (h : SameButDeadTemps a b) (rest : List Word) :
    SameButDeadTemps { a with schedule := rest } { b with schedule := rest } :=
  ⟨congrArg (fun s => { s with schedule := rest }) h.1, h.2⟩

/-! ## The operations of `poll()` -/

/-- The first micro-step reads no temporary, and no later one reads the c1 that it writes. -/
theorem sameButDeadTemps_pRead1 {a b : State} (h : clearTemps a = clearTemps b) :
    SameButDeadTemps (pRead1 a) (pRead1 b) := by
  obtain ⟨x, rfl⟩ : ∃ x, b = withTemps x a := ⟨b, eq_withTemps h⟩
  refine ⟨rfl, ?_⟩
  by_cases hc : a.processedClaps < a.clapCount <;> simp [liveTempsAgree, pRead1, memRead1, hc]

/-- A micro-step reads no temporary but the live ones, and those that it writes, or that stay live, agree. -/
theorem sameButDeadTemps_microStep {a b : State} (h : SameButDeadTemps a b) :
    SameButDeadTemps (microStep a) (microStep b) := by
  obtain ⟨hc, hl⟩ := h
  obtain ⟨x, rfl⟩ : ∃ x, b = withTemps x a := ⟨b, eq_withTemps hc⟩
  have hb : (withTemps x a).hp = a.hp := rfl
  unfold liveTempsAgree at hl
  unfold microStep
  rw [hb]
  cases hp : a.hp <;> simp only [hp] at hl ⊢
  case ready => exact ⟨hc, by simp [liveTempsAgree, hp]⟩
  case pRead1 => exact sameButDeadTemps_pRead1 hc
  case pRead2 =>
    by_cases h0 : 0 < a.clapCount
    · rw [pRead2_of_pos h0, pRead2_of_pos (s := withTemps x a) h0]; exact ⟨rfl, trivial⟩
    · rw [pRead2_of_not_pos h0, pRead2_of_not_pos (s := withTemps x a) h0]; exact ⟨rfl, trivial⟩
  case pInprog =>
    by_cases h127 : a.processedClaps + 1 = 127
    · rw [pInprog_of_eq h127, pInprog_of_eq (s := withTemps x a) h127]; exact ⟨rfl, trivial⟩
    · rw [pInprog_of_ne h127, pInprog_of_ne (s := withTemps x a) h127]; exact ⟨rfl, trivial⟩
  case pCsEnter => exact ⟨rfl, rfl⟩
  case pCsRead => exact ⟨rfl, hl, rfl⟩
  case pCsExit =>
    obtain ⟨hg, ht⟩ := hl
    exact ⟨by simp [pCsExit, criticalExit, clearTemps, hg, withTemps], ht⟩
  case pNow => exact ⟨rfl, hl, rfl⟩
  case pCmp =>
    obtain ⟨ht, hn⟩ := hl
    have hout' : timedOut a.cfg (withTemps x a).tmpT (withTemps x a).tmpNow ↔
        timedOut a.cfg a.tmpT a.tmpNow := by rw [ht, hn]
    by_cases hout : timedOut a.cfg a.tmpT a.tmpNow
    · rw [pCmp_of_timedOut hout, pCmp_of_timedOut (s := withTemps x a) (hout'.mpr hout)]
      exact ⟨rfl, trivial⟩
    · rw [pCmp_of_not_timedOut hout, pCmp_of_not_timedOut (s := withTemps x a) (mt hout'.mp hout)]
      exact ⟨rfl, trivial⟩
  case pSnap =>
    by_cases hat : a.cfg.atomicFinish = true
    · rw [pSnap_of_atomic hat, pSnap_of_atomic (s := withTemps x a) hat]; exact ⟨rfl, trivial⟩
    · rw [pSnap_of_not_atomic hat, pSnap_of_not_atomic (s := withTemps x a) hat]; exact ⟨rfl, rfl⟩
  case pRmwRead => exact ⟨rfl, hl, rfl⟩
  case pRmwWrite =>
    obtain ⟨hs, hr⟩ := hl
    exact ⟨by simp [pRmwWrite, memWrite1, clearTemps, hr, withTemps], hs⟩
  case pFinDone =>
    exact ⟨by simp [pFinDone, emit, clearTemps, hl, withTemps], trivial⟩

/-- The two operations of `poll()` are followed phase by phase; the others commute with clearing. -/
theorem outcomesAgree_exec (i : Instr) {a b : State} (h : SameButDeadTemps a b) :
    OutcomesAgree (exec i a) (exec i b) := by
  obtain ⟨hc, hl⟩ := h
  have hready : hostReady a = hostReady b := (congrArg hostReady hc :)
  by_cases hpoll : i = .poll
  · subst hpoll
    simp only [exec, execPoll, hready]
    exact outcomesAgree_whenEnabled fun _ => sameButDeadTemps_pRead1 hc
  by_cases hstep : i = .hstep
  · subst hstep
    simp only [exec, execHstep, hready]
    exact outcomesAgree_whenEnabled fun _ => sameButDeadTemps_microStep ⟨hc, hl⟩
  · refine outcomesAgree_of_mapNext ?_ fun s t hs ht => ?_
    · rw [← exec_clearTemps hpoll hstep, ← exec_clearTemps hpoll hstep, hc]
    · obtain ⟨-, -, -, -, -, -, -, -, -, -, hsTemps, -⟩ := onlyOwnersWrite i a s hs
      obtain ⟨-, -, -, -, -, -, -, -, -, -, htTemps, -⟩ := onlyOwnersWrite i b t ht
      obtain ⟨shp, -, -, sT, sNow, sS, sR, sG⟩ := hsTemps hpoll hstep
      obtain ⟨-, -, -, tT, tNow, tS, tR, tG⟩ := htTemps hpoll hstep
      simpa only [liveTempsAgree, shp, sT, sNow, sS, sR, sG, tT, tNow, tS, tR, tG] using hl

theorem outcomesAgree_performWord (w : Word) {a b : State} (h : SameButDeadTemps a b) :
    OutcomesAgree (performWord w a) (performWord w b) := by
  cases hd : decode w with
  | ok i => rw [performWord_ok hd, performWord_ok hd]; exact outcomesAgree_exec i h
  | error r => rw [performWord_error hd, performWord_error hd]; rfl

theorem outcomesAgree_step {a b : State} (h : SameButDeadTemps a b) : OutcomesAgree (step a) (step b) := by
  have hblocked : blocked a = blocked b := (congrArg blocked h.1 :)
  have hschedule : a.schedule = b.schedule := (congrArg State.schedule h.1 :)
  cases hb : blocked a with
  | some o =>
    rw [step_of_blocked hb, step_of_blocked (hblocked ▸ hb)]
    obtain ⟨r, -, rfl⟩ | ⟨-, rfl⟩ | ⟨e, -, rfl⟩ := blocked_eq_some hb <;> rfl
  | none =>
    cases hs : a.schedule with
    | nil => simp [step, fetch, ← hblocked, ← hschedule, hb, hs, OutcomesAgree]
    | cons w rest =>
      obtain ⟨hcfg, hu⟩ := blocked_eq_none_iff.mp hb
      obtain ⟨hcfg', hu'⟩ := blocked_eq_none_iff.mp (hblocked ▸ hb)
      rw [step_eq_performWord hcfg hu hs, step_eq_performWord hcfg' hu' (hschedule ▸ hs)]
      exact outcomesAgree_performWord w (sameButDeadTemps_setSchedule h rest)

/-- Settles O58: steps of states that differ in dead temporaries have outcomes that agree. -/
theorem deadTemporariesUnobservable : Obligations.DeadTemporariesUnobservable := by
  intro a b h
  exact outcomesAgree_step h

/-! ## Constants of a valid configuration as bytes -/

theorem debBase_lt_maxT {c : Config} (h : ValidConfig c) : c.debBase < c.maxT.toNat := by
  obtain ⟨-, -, -, hhi, -⟩ := validConfig_iff.mp h
  unfold Config.debBase
  omega

theorem debBaseByte_toNat {c : Config} (h : ValidConfig c) : c.debBaseByte.toNat = c.debBase := by
  have := debBase_lt_maxT h
  rw [Config.debBaseByte, BitVec.toNat_ofNat, Nat.mod_eq_of_lt (by omega)]

theorem peakTimeoutByte_toNat {c : Config} (h : ValidConfig c) : c.peakTimeoutByte.toNat = c.peakTimeout := by
  obtain ⟨-, -, -, -, -, hp, -⟩ := validConfig_iff.mp h
  rw [Config.peakTimeoutByte, BitVec.toNat_ofNat, Nat.mod_eq_of_lt (by omega)]

/-! ## The tracker's part of the invariant -/

theorem trackerMode_eq_idle_iff {s : State} :
    trackerMode s = .idle ↔ s.cfg.maxT.toNat ≤ s.runningMax.toNat ∧ s.countdown.toNat = 0 := by
  unfold trackerMode
  split
  · simp; bv_omega
  · split <;> simp <;> bv_omega

theorem trackerMode_eq_tracking_iff {s : State} :
    trackerMode s = .tracking ↔ s.cfg.maxT.toNat ≤ s.runningMax.toNat ∧ s.countdown.toNat ≠ 0 := by
  unfold trackerMode
  split
  · simp; bv_omega
  · split <;> simp <;> bv_omega

/-- The tracker ranges of 41_tracker R163 in the numbers of the cells. -/
theorem trackerOk_iff {s : State} :
    TrackerOk s ↔ s.cfg.debBase ≤ s.runningMax.toNat ∧
      (s.cfg.maxT.toNat ≤ s.runningMax.toNat → s.countdown.toNat = 0 →
        s.runningMax.toNat = s.cfg.maxT.toNat) ∧
      (s.cfg.maxT.toNat ≤ s.runningMax.toNat → s.countdown.toNat ≠ 0 →
        s.countdown.toNat ≤ s.cfg.peakTimeout) := by
  constructor
  · rintro ⟨hlow, hidle, htrack⟩
    exact ⟨hlow, fun h h0 => congrArg BitVec.toNat (hidle (trackerMode_eq_idle_iff.mpr ⟨h, h0⟩)),
      fun h h0 => (htrack (trackerMode_eq_tracking_iff.mpr ⟨h, h0⟩)).2⟩
  · rintro ⟨hlow, hidle, htrack⟩
    refine ⟨hlow, fun h => ?_, fun h => ?_⟩
    · obtain ⟨hmax, h0⟩ := trackerMode_eq_idle_iff.mp h
      exact BitVec.eq_of_toNat_eq (hidle hmax h0)
    · obtain ⟨hmax, h0⟩ := trackerMode_eq_tracking_iff.mp h
      exact ⟨Nat.one_le_iff_ne_zero.mpr h0, htrack hmax h0⟩

/-- The recovery staircase climbs to MAX_T and not above it (41_tracker R159, R160). -/
theorem trackerOk_debounceStep {s : State} (h : TrackerOk s) (hlt : s.runningMax < s.cfg.maxT) :
    TrackerOk (debounceStep s) := by
  obtain ⟨hlow, -, -⟩ := trackerOk_iff.mp h
  rw [trackerOk_iff]
  simp only [debounceStep]
  split <;> refine ⟨?_, ?_, ?_⟩ <;> bv_omega

theorem trackerOk_refreshPeak {s : State} {input : Byte} (hv : ValidConfig s.cfg)
    (hge : ¬ s.runningMax < s.cfg.maxT) (hle : s.runningMax ≤ input) : TrackerOk (refreshPeak input s) := by
  have hbase := debBase_lt_maxT hv
  have htimeout := peakTimeoutByte_toNat hv
  obtain ⟨-, -, -, -, hpos, -⟩ := validConfig_iff.mp hv
  rw [trackerOk_iff]
  simp only [refreshPeak]
  refine ⟨?_, ?_, ?_⟩ <;> bv_omega

theorem detectClap_runningMax (s : State) : (detectClap s).runningMax = s.cfg.debBaseByte := rfl

theorem detectClap_cfg (s : State) : (detectClap s).cfg = s.cfg := by simp [detectClap, accumulate]

theorem trackerOk_detectClap {s : State} (hv : ValidConfig s.cfg) : TrackerOk (detectClap s) := by
  have hbase := debBase_lt_maxT hv
  rw [trackerOk_iff, detectClap_runningMax, detectClap_cfg, debBaseByte_toNat hv]
  exact ⟨le_rfl, fun hge => absurd hge (by omega), fun hge => absurd hge (by omega)⟩

theorem trackerOk_decayPeak {s : State} (hv : ValidConfig s.cfg) (h : TrackerOk s)
    (hge : ¬ s.runningMax < s.cfg.maxT) (hcd : s.countdown ≠ 0) : TrackerOk (decayPeak s) := by
  have hbase := debBase_lt_maxT hv
  obtain ⟨hlow, -, htrack⟩ := trackerOk_iff.mp h
  have hlive : s.countdown.toNat ≤ s.cfg.peakTimeout := htrack (by bv_omega) (by bv_omega)
  rw [trackerOk_iff]
  simp only [decayPeak]
  split
  · refine ⟨?_, ?_, ?_⟩
    · bv_omega
    · exact fun _ _ => rfl
    · bv_omega
  · refine ⟨?_, ?_, ?_⟩
    · bv_omega
    · bv_omega
    · bv_omega

/-- Every branch of the tracker step keeps the ranges of 41_tracker R163. -/
theorem trackerOk_trackerStep (input : Byte) {s : State} (hv : ValidConfig s.cfg) (h : TrackerOk s) :
    TrackerOk (trackerStep input s) := by
  obtain ⟨hlt, he⟩ | ⟨hge, hle, he⟩ | ⟨-, -, -, he⟩ | ⟨-, -, -, -, he⟩ | ⟨hge, -, hcd, -, he⟩ :=
    trackerStep_cases input s
  · rw [he]; exact trackerOk_debounceStep h hlt
  · rw [he]; exact trackerOk_refreshPeak hv hge hle
  · rw [he]; exact h
  · rw [he]; exact trackerOk_detectClap hv
  · rw [he]; exact trackerOk_decayPeak hv h hge hcd

theorem TrackerOk.congr {s t : State} (h : TrackerOk s) (hcfg : t.cfg = s.cfg)
    (hmax : t.runningMax = s.runningMax) (hcd : t.countdown = s.countdown) : TrackerOk t := by
  rw [trackerOk_iff] at h ⊢
  rwa [hcfg, hmax, hcd]

/-! ## The part of the invariant that `poll()` can touch -/

/-- The invariant's clauses about the counters, the poll in progress and the output trace. -/
structure PollInv (s : State) : Prop where
  counters : CountersOk s
  poll : PollOk s
  events : s.events.all eventInRange = true

theorem Inv.pollInv {s : State} (h : Inv s) : PollInv s := ⟨h.counters, h.poll, h.events⟩

theorem countersOk_of_le {s : State} (hclap : s.clapCount.toNat ≤ 127) (hproc : s.processedClaps.toNat ≤ 126)
    (hle : s.processedClaps.toNat ≤ s.clapCount.toNat) : CountersOk s :=
  ⟨hclap, hproc, fun _ => hle⟩

theorem eventInRange_seriesInProgress {n : Byte} :
    eventInRange (.seriesInProgress n) = true ↔ 1 ≤ n.toNat ∧ n.toNat ≤ 126 := by
  simp [eventInRange]

theorem eventInRange_seriesFinished {n : Byte} :
    eventInRange (.seriesFinished n) = true ↔ 1 ≤ n.toNat ∧ n.toNat ≤ 127 := by
  simp [eventInRange]

/-- Emitting an event in range closes the poll, where the counters are ordered. -/
theorem pollInv_emit {e : Event} {s : State} (hc : CountersOk { s with hp := .ready })
    (hev : s.events.all eventInRange = true) (he : eventInRange e = true) : PollInv (emit e s) :=
  ⟨⟨hc.clapRange, hc.processedRange, hc.countedFirst⟩, trivial, by simp [hev, he]⟩

/-- The mask is free outside the critical section, and stays 0 inside. -/
theorem pollInv_setGie {s : State} {b : Bool} (h : PollInv s)
    (hb : s.hp = .pCsRead ∨ s.hp = .pCsExit → b = false) : PollInv { s with gie := b } := by
  obtain ⟨⟨hclap, hproc, hfirst⟩, hpoll, hev⟩ := h
  refine ⟨⟨hclap, hproc, hfirst⟩, ?_, hev⟩
  unfold PollOk at hpoll ⊢
  cases hp : s.hp <;> simp only [hp] at hpoll hb ⊢
  case pCsRead => exact ⟨hpoll.1, hb (.inl trivial)⟩
  case pCsExit => exact ⟨hpoll.1, hb (.inr trivial)⟩
  all_goals exact hpoll

/-- A clap counted at any phase keeps what the poll in progress knows. -/
theorem pollOk_of_clapCount_le {s t : State} (h : PollOk s) (hle : s.clapCount.toNat ≤ t.clapCount.toNat)
    (ht : { t with
      clapCount := s.clapCount, runningMax := s.runningMax, countdown := s.countdown
      lastClap := s.lastClap } = s) : PollOk t := by
  rw [← ht] at h
  unfold PollOk at h ⊢
  cases hp : t.hp <;> simp only [hp] at h ⊢
  case pCsRead | pCsExit => exact ⟨h.1.trans hle, h.2⟩
  case pRmwRead =>
    obtain ⟨hat, hs, hsc⟩ := h
    exact ⟨hat, hs, hsc.trans hle⟩
  case pRmwWrite =>
    obtain ⟨hat, hs, hsr, hpr, hr⟩ := h
    exact ⟨hat, hs, hsr, hpr, hr.trans hle⟩
  case pFinDone => exact h
  all_goals omega

theorem pollInv_trackerStep (input : Byte) {s : State} (h : PollInv s) : PollInv (trackerStep input s) := by
  obtain ⟨⟨hclap, hproc, hfirst⟩, hpoll, hev⟩ := h
  have hframe := trackerStep_frame input s
  have hle : s.clapCount.toNat ≤ (trackerStep input s).clapCount.toNat ∧
      (trackerStep input s).clapCount.toNat ≤ 127 := by
    obtain he | ⟨hlt, he⟩ := trackerStep_clapCount input s
    · rw [he]; exact ⟨le_rfl, hclap⟩
    · omega
  have hhp : (trackerStep input s).hp = s.hp := by rw [hframe]
  have hprocessed : (trackerStep input s).processedClaps = s.processedClaps := by rw [hframe]
  have hevents : (trackerStep input s).events = s.events := by rw [hframe]
  refine ⟨⟨hle.2, hprocessed ▸ hproc, fun hne => ?_⟩, ?_, hevents ▸ hev⟩
  · rw [hprocessed]
    exact (hfirst (hhp ▸ hne)).trans hle.1
  · exact pollOk_of_clapCount_le hpoll hle.1 (by rw [hframe])

theorem pollInv_pRead1 {s : State} (h : PollInv s) (hr : s.hp = .ready) : PollInv (pRead1 s) := by
  obtain ⟨⟨hclap, hproc, hfirst⟩, -, hev⟩ := h
  have hle := hfirst (by simp [hr])
  by_cases hlt : s.processedClaps < s.clapCount
  · rw [pRead1_of_lt hlt]
    exact ⟨countersOk_of_le hclap hproc hle, ⟨hlt, le_rfl⟩, hev⟩
  · rw [pRead1_of_not_lt hlt]
    exact ⟨countersOk_of_le hclap hproc hle, trivial, hev⟩

/-- P_INPROG reports a count between 1 and 126, or the overflow (42_reducer R193, R194). -/
theorem pollInv_pInprog {s : State} (h : PollInv s) (hp : s.hp = .pInprog) : PollInv (pInprog s) := by
  obtain ⟨⟨hclap, hproc, hfirst⟩, hpoll, hev⟩ := h
  simp only [PollOk, hp] at hpoll
  obtain ⟨hlt, hle⟩ := hpoll
  by_cases h127 : s.processedClaps + 1 = 127
  · rw [pInprog_of_eq h127]
    exact pollInv_emit (countersOk_of_le (by simp) (by simp) (by simp)) hev rfl
  · have hsucc : (s.processedClaps + 1).toNat = s.processedClaps.toNat + 1 := by bv_omega
    have h126 : s.processedClaps.toNat + 1 ≤ 126 := by bv_omega
    rw [pInprog_of_ne h127]
    refine pollInv_emit (countersOk_of_le hclap ?_ ?_) hev ?_
    · simp only [hsucc, h126]
    · simp only [hsucc]; omega
    · exact eventInRange_seriesInProgress.mpr ⟨by omega, by omega⟩

theorem pollInv_pRead2 {s : State} (h : PollInv s) (hp : s.hp = .pRead2) : PollInv (pRead2 s) := by
  obtain ⟨⟨hclap, hproc, hfirst⟩, -, hev⟩ := h
  have hle := hfirst (by simp [hp])
  by_cases h0 : 0 < s.clapCount
  · rw [pRead2_of_pos h0]
    exact ⟨countersOk_of_le hclap hproc hle, h0, hev⟩
  · rw [pRead2_of_not_pos h0]
    exact pollInv_emit (countersOk_of_le hclap hproc hle) hev rfl

theorem pollInv_pCmp {s : State} (h : PollInv s) (hp : s.hp = .pCmp) : PollInv (pCmp s) := by
  obtain ⟨⟨hclap, hproc, hfirst⟩, hpoll, hev⟩ := h
  have hle := hfirst (by simp [hp])
  simp only [PollOk, hp] at hpoll
  by_cases hout : timedOut s.cfg s.tmpT s.tmpNow
  · rw [pCmp_of_timedOut hout]
    exact ⟨countersOk_of_le hclap hproc hle, hpoll, hev⟩
  · rw [pCmp_of_not_timedOut hout]
    exact pollInv_emit (countersOk_of_le hclap hproc hle) hev rfl

/-- P_SNAP reports the whole count at once, or remembers it for the finish (42_reducer R202, R206). -/
theorem pollInv_pSnap {s : State} (h : PollInv s) (hp : s.hp = .pSnap) : PollInv (pSnap s) := by
  obtain ⟨⟨hclap, hproc, hfirst⟩, hpoll, hev⟩ := h
  have hle := hfirst (by simp [hp])
  simp only [PollOk, hp] at hpoll
  by_cases hat : s.cfg.atomicFinish = true
  · have hsub : (s.clapCount - s.processedClaps).toNat = s.clapCount.toNat - s.processedClaps.toNat :=
      BitVec.toNat_sub_of_le hle
    rw [pSnap_of_atomic hat]
    refine pollInv_emit (countersOk_of_le ?_ (by simp) (by simp)) hev ?_
    · simp only [hsub]; omega
    · exact eventInRange_seriesFinished.mpr ⟨hpoll, hclap⟩
  · rw [pSnap_of_not_atomic hat]
    exact ⟨countersOk_of_le hclap hproc hle, ⟨by simpa using hat, hpoll, le_rfl⟩, hev⟩

/-- P_RMW_WRITE writes no more than the count it read (42_reducer R204). -/
theorem pollInv_pRmwWrite {s : State} (h : PollInv s) (hp : s.hp = .pRmwWrite) : PollInv (pRmwWrite s) := by
  obtain ⟨⟨hclap, hproc, -⟩, hpoll, hev⟩ := h
  simp only [PollOk, hp] at hpoll
  obtain ⟨hat, hs, hsr, hpr, hr⟩ := hpoll
  have hsub : (s.tmpR - s.processedClaps).toNat = s.tmpR.toNat - s.processedClaps.toNat :=
    BitVec.toNat_sub_of_le hpr
  refine ⟨⟨?_, hproc, fun hne => absurd rfl hne⟩, ⟨hat, hs, ?_⟩, hev⟩
  · simp only [pRmwWrite, memWrite1, hsub]; omega
  · simp only [pRmwWrite, memWrite1]; omega

theorem pollInv_pFinDone {s : State} (h : PollInv s) (hp : s.hp = .pFinDone) : PollInv (pFinDone s) := by
  obtain ⟨⟨hclap, -, -⟩, hpoll, hev⟩ := h
  simp only [PollOk, hp] at hpoll
  obtain ⟨-, hs, hs127⟩ := hpoll
  exact pollInv_emit (countersOk_of_le hclap (by simp) (by simp)) hev
    (eventInRange_seriesFinished.mpr ⟨hs, hs127⟩)

theorem pollInv_microStep {s : State} (h : PollInv s) : PollInv (microStep s) := by
  have hpoll := h.poll
  have hev := h.events
  obtain ⟨hclap, hproc, hfirst⟩ := h.counters
  unfold microStep
  cases hp : s.hp <;> simp only [PollOk, hp] at hpoll hfirst ⊢
  case ready => exact h
  case pRead2 => exact pollInv_pRead2 h hp
  case pInprog => exact pollInv_pInprog h hp
  case pCmp => exact pollInv_pCmp h hp
  case pSnap => exact pollInv_pSnap h hp
  case pRmwWrite => exact pollInv_pRmwWrite h hp
  case pFinDone => exact pollInv_pFinDone h hp
  all_goals have hle := hfirst (by simp)
  case pCsEnter => exact ⟨countersOk_of_le hclap hproc hle, ⟨hpoll, rfl⟩, hev⟩
  case pCsRead => exact ⟨countersOk_of_le hclap hproc hle, hpoll, hev⟩
  case pCsExit => exact ⟨countersOk_of_le hclap hproc hle, hpoll.1, hev⟩
  case pNow => exact ⟨countersOk_of_le hclap hproc hle, hpoll, hev⟩
  case pRmwRead =>
    obtain ⟨hat, hs, hsc⟩ := hpoll
    exact ⟨countersOk_of_le hclap hproc hle, ⟨hat, hs, hsc, hle, le_rfl⟩, hev⟩

/-! ## The registers' and the converter's part -/

/-- A write of one bit of ADCSRA but ADSC's keeps the clauses about the registers (log 6). -/
theorem registersOk_setAdcsraBit {s : State} (h : RegistersOk s) {k : Nat} (hk : k ≠ 6) (b : Bool) :
    RegistersOk { s with adcsra := setBit s.adcsra k b } :=
  ⟨h.admuxReserved, h.adcsrbReserved, h.adclLow, by simpa [getElem_setBit, hk.symm] using h.adscNotStored⟩

theorem converterOk_setAdif {s : State} (h : ConverterOk s) (b : Bool) : ConverterOk (setAdif b s) :=
  ⟨by simpa using h.enabledAfterInit, by simpa using h.onAfterInit, h.offBeforeInit⟩

theorem converterOk_setAdie {s : State} (h : ConverterOk s) {b : Bool} (hb : b = true → s.initialized = true) :
    ConverterOk (setAdie b s) :=
  ⟨by simpa using hb, by simpa using h.onAfterInit, h.offBeforeInit⟩

/-! ## The invariant after each kind of update -/

/-- An update of the registers, the clock, the schedule or the draw counter keeps the invariant where it
keeps the clauses about the registers and the converter. -/
theorem inv_of_registerWrites {s t : State} (h : Inv s)
    (ht : { t with
      admux := s.admux, adcsra := s.adcsra, adcsrb := s.adcsrb, adch := s.adch, adcl := s.adcl
      convRunning := s.convRunning, envMs := s.envMs, schedule := s.schedule, draws := s.draws } = s)
    (hr : RegistersOk t) (hc : ConverterOk t) : Inv t := by
  rw [← ht] at h
  obtain ⟨hclap, hproc, hfirst⟩ := h.counters
  exact ⟨h.config, h.unmarked, hr, hc, h.tracker.congr rfl rfl rfl, ⟨hclap, hproc, hfirst⟩, h.poll, h.events⟩

/-- An update of what `poll()` writes keeps the invariant where it keeps the clauses about the poll. -/
theorem inv_of_pollWrites {s t : State} (h : Inv s)
    (ht : { t with
      clapCount := s.clapCount, processedClaps := s.processedClaps, hp := s.hp, gie := s.gie
      events := s.events, tmpC1 := s.tmpC1, tmpC2 := s.tmpC2, tmpT := s.tmpT, tmpNow := s.tmpNow
      tmpS := s.tmpS, tmpR := s.tmpR, tmpG := s.tmpG } = s)
    (hp : PollInv t) : Inv t := by
  rw [← ht] at h
  obtain ⟨hadmux, hadcsrb, hadcl, hadsc⟩ := h.registers
  obtain ⟨hen, hon, hoff⟩ := h.converter
  exact ⟨h.config, h.unmarked, ⟨hadmux, hadcsrb, hadcl, hadsc⟩, ⟨hen, hon, hoff⟩,
    h.tracker.congr rfl rfl rfl, hp.counters, hp.poll, hp.events⟩

/-- The invariant does not look at the clock, the schedule or the draw counter. -/
theorem inv_of_clockWrites {s t : State} (h : Inv s)
    (ht : { t with envMs := s.envMs, schedule := s.schedule, draws := s.draws } = s) : Inv t := by
  rw [← ht] at h
  obtain ⟨hadmux, hadcsrb, hadcl, hadsc⟩ := h.registers
  obtain ⟨hen, hon, hoff⟩ := h.converter
  exact inv_of_registerWrites h rfl ⟨hadmux, hadcsrb, hadcl, hadsc⟩ ⟨hen, hon, hoff⟩

theorem inv_setAdif {s : State} (h : Inv s) (b : Bool) : Inv (setAdif b s) :=
  inv_of_registerWrites h rfl (registersOk_setAdcsraBit h.registers (by decide) b)
    (converterOk_setAdif h.converter b)

theorem inv_setAdie {s : State} (h : Inv s) {b : Bool} (hb : b = true → s.initialized = true) :
    Inv (setAdie b s) :=
  inv_of_registerWrites h rfl (registersOk_setAdcsraBit h.registers (by decide) b)
    (converterOk_setAdie h.converter hb)

theorem inv_setInterruptEnable {s : State} (h : Inv s) {enable : Bool} (clear : Bool)
    (he : enable = true → s.initialized = true) : Inv (setInterruptEnable enable clear s) := by
  have hadie := inv_setAdie h he
  cases clear with
  | false => exact hadie
  | true => exact inv_setAdif hadie false

/-- A conversion completes only in a running converter, which `INIT` has left free-running. -/
theorem inv_completeConversion {s : State} (h : Inv s) (hrun : s.convRunning = true) (v : Byte)
    (low : BitVec 2) : Inv (completeConversion v low s) := by
  obtain ⟨hadmux, hadcsrb, -, hadsc⟩ := h.registers
  obtain ⟨hen, hon, hoff⟩ := h.converter
  have hinit : s.initialized = true := by
    cases hi : s.initialized with
    | true => rfl
    | false => simp [hoff hi] at hrun
  obtain ⟨haden, hfree, -⟩ := hon hinit
  have hlow : low ++ 0#6 &&& (0x3F : Byte) = 0 := by revert low; decide
  have hlatched : Inv { s with
      adch := v, adcl := low ++ 0#6, convRunning := s.freeRunning && s.convRunning } :=
    inv_of_registerWrites h rfl ⟨hadmux, hadcsrb, hlow, hadsc⟩
      ⟨hen, fun _ => ⟨haden, hfree, by simp [hfree, hrun]⟩, fun hi => by simp [hinit] at hi⟩
  exact inv_setAdif hlatched true

theorem inv_setGie {s : State} {b : Bool} (h : Inv s)
    (hb : s.hp = .pCsRead ∨ s.hp = .pCsExit → b = false) : Inv { s with gie := b } :=
  inv_of_pollWrites h rfl (pollInv_setGie h.pollInv hb)

theorem inv_trackerStep (input : Byte) {s : State} (h : Inv s) : Inv (trackerStep input s) := by
  obtain ⟨hadmux, hadcsrb, hadcl, hadsc⟩ := h.registers
  obtain ⟨hen, hon, hoff⟩ := h.converter
  obtain ⟨hcounters, hpoll, hev⟩ := pollInv_trackerStep input h.pollInv
  have htracker := trackerOk_trackerStep input h.config h.tracker
  rw [trackerStep_frame] at hcounters hpoll hev htracker ⊢
  exact ⟨h.config, h.unmarked, ⟨hadmux, hadcsrb, hadcl, hadsc⟩, ⟨hen, hon, hoff⟩, htracker, hcounters,
    hpoll, hev⟩

/-- The interrupt is taken outside the critical section alone, which masks it (42_reducer R197). -/
theorem inv_isr {s : State} (h : Inv s) (hgie : s.gie = true) :
    Inv (interruptReturn (serviceSample (interruptEnter s))) := by
  have hmasked : Inv (interruptEnter s) := inv_setGie (inv_setAdif h false) fun _ => rfl
  have hserved : Inv (serviceSample (interruptEnter s)) := inv_trackerStep _ hmasked
  have hhp : (serviceSample (interruptEnter s)).hp = s.hp := by
    rw [serviceSample_eq, trackerStep_frame]; rfl
  refine inv_setGie hserved fun hcs => ?_
  have hpoll := h.poll
  rw [hhp] at hcs
  obtain hp | hp := hcs <;> simp [PollOk, hp, hgie] at hpoll

theorem inv_microStep {s : State} (h : Inv s) : Inv (microStep s) :=
  inv_of_pollWrites h (by rw [microStep_writes]) (pollInv_microStep h.pollInv)

theorem inv_pRead1 {s : State} (h : Inv s) (hr : s.hp = .ready) : Inv (pRead1 s) :=
  inv_of_pollWrites h rfl (pollInv_pRead1 h.pollInv hr)

/-! ## INIT and the step -/

/-- The bits of the ADCSRA byte that `INIT` writes: on, started, auto-triggered (40_sampler R112). -/
theorem initAdcsra_bits (p : BitVec 3) :
    let v := packAdcsra true true true false false p
    v[7] = true ∧ v[6] = true ∧ v[5] = true := by
  revert p; decide

/-- `INIT` selects the free-running trigger and leaves the reserved bits of ADCSRB 0 (40_sampler R112). -/
theorem initAdcsrb_bits (b : Byte) :
    ((b &&& 0x40 ||| 0) &&& 0x47).extractLsb' 0 3 = 0 ∧ ((b &&& 0x40 ||| 0) &&& 0x47) &&& 0xB8 = 0 := by
  revert b; decide

theorem registersOk_initRegisters {s : State} (h : RegistersOk s) : RegistersOk (initRegisters s) := by
  rw [initRegisters_eq]
  refine ⟨?_, (initAdcsrb_bits s.adcsrb).2, h.adclLow, ?_⟩
  · simp [BitVec.and_assoc]
  · simp [getElem_setBit]

theorem converterOk_initRegisters (s : State) (hi : s.initialized = true) : ConverterOk (initRegisters s) := by
  obtain ⟨hen, hsc, hate⟩ := initAdcsra_bits s.cfg.psCode
  obtain ⟨haden, hadate, -, -, hrun⟩ := writeAdcsra_fields
    (packAdcsra true true true false false s.cfg.psCode)
    (memWrite1 .adcsrb (memRead1 .adcsrb s &&& 0x40 ||| 0b000)
      (memWrite1 .admux (packAdmux s.cfg.adcRef true s.cfg.adcChannel) s))
  have hadts : (initRegisters s).adts = 0 := (initAdcsrb_bits s.adcsrb).1
  have hinit : (initRegisters s).initialized = true := hi
  refine ⟨fun _ => hinit, fun _ => ⟨haden.trans hen, ?_, ?_⟩, fun h => absurd (hinit.symm.trans h) (by decide)⟩
  · have : (initRegisters s).adate = true := hadate.trans hate
    simp [State.freeRunning, this, hadts, triggerOf]
  · exact hrun.trans (by simp [hen, hsc])

/-- `INIT` starts from idle at MAX_T with the counters at 0 (40_sampler R111). -/
theorem inv_init {s : State} (h : Inv s) (hr : s.hp = .ready) : Inv (initRegisters (initCells s)) where
  config := h.config
  unmarked := h.unmarked
  registers := by
    obtain ⟨hadmux, hadcsrb, hadcl, hadsc⟩ := h.registers
    exact registersOk_initRegisters (s := initCells s) ⟨hadmux, hadcsrb, hadcl, hadsc⟩
  converter := converterOk_initRegisters _ rfl
  tracker := trackerOk_iff.mpr
    ⟨(debBase_lt_maxT h.config).le, fun _ _ => rfl, fun _ h0 => absurd rfl h0⟩
  counters := countersOk_of_le (Nat.zero_le 127) (Nat.zero_le 126) le_rfl
  poll := by
    have hp : (initRegisters (initCells s)).hp = .ready := hr
    simp [PollOk, hp]
  events := h.events

/-- Every operation that answers a next state keeps the invariant. -/
theorem inv_exec {i : Instr} {s t : State} (h : Inv s) (hexec : exec i s = .next t) : Inv t := by
  cases i with
  | init => obtain ⟨hr, -, rfl⟩ := execInit_next hexec; exact inv_init h hr
  | enable =>
    obtain ⟨-, hi, rfl⟩ := execEnable_next hexec
    exact inv_of_clockWrites (inv_setInterruptEnable h _ fun _ => hi) rfl
  | disable =>
    obtain ⟨-, rfl⟩ := execDisable_next hexec
    exact inv_of_clockWrites (inv_setInterruptEnable h _ (by simp)) rfl
  | poll => obtain ⟨hr, rfl⟩ := execPoll_next hexec; exact inv_pRead1 h hr
  | sei => obtain ⟨hr, rfl⟩ := execSei_next hexec; exact inv_setGie h (by simp [hr])
  | cli => obtain ⟨-, rfl⟩ := execCli_next hexec; exact inv_setGie h fun _ => rfl
  | hstep => obtain ⟨-, rfl⟩ := execHstep_next hexec; exact inv_microStep h
  | convert v =>
    obtain ⟨-, hrun, rfl⟩ := execConvert_next hexec
    exact inv_of_clockWrites (inv_completeConversion h hrun v _) rfl
  | isr => obtain ⟨-, -, hgie, rfl⟩ := execIsr_next hexec; exact inv_isr h hgie
  | advance k => rw [execAdvance_next hexec]; exact inv_of_clockWrites h rfl

/-- Settles O14: the step performs an operation on the state without the word, and every operation keeps the
invariant. -/
theorem stepKeepsInvariant : Obligations.StepKeepsInvariant := by
  intro s t h hstep
  obtain ⟨-, -, w, rest, i, -, -, hexec⟩ := step_next hstep
  exact inv_exec (inv_of_clockWrites (t := { s with schedule := rest }) h rfl) hexec

end Sys2Proof.Machine

/-! PROOFS of the family 20_memory: the critical section, the register space by address, the bytes of a cell. -/

namespace Sys2Proof.Machine

/-! ## The critical section -/

theorem exec_isr_of_masked {s : State} (h : s.gie = false) : exec .isr s = .refused .notEnabled := by
  have htaken : interruptTaken s = false := by simp [interruptTaken, h]
  simp [exec, execIsr, whenEnabled, htaken]

/-- Inside the critical section interrupts are masked (42_reducer R197). -/
theorem Inv.gie_of_criticalSection {s : State} (h : Inv s) (hp : s.hp = .pCsRead ∨ s.hp = .pCsExit) :
    s.gie = false := by
  have hpoll := h.poll
  obtain hread | hexit := hp
  · simp only [PollOk, hread] at hpoll
    exact hpoll.2
  · simp only [PollOk, hexit] at hpoll
    exact hpoll.2

/-- While a poll is in progress, the host performs no operation but its next micro-step (30_encoding R90). -/
theorem not_hostOperation_of_polling {i : Instr} {s t : State} (hexec : exec i s = .next t)
    (hp : s.hp ≠ .ready) : i ∉ [Instr.init, .enable, .disable, .poll, .sei, .cli] := by
  cases i with
  | init => exact absurd (execInit_next hexec).1 hp
  | enable => exact absurd (execEnable_next hexec).1 hp
  | disable => exact absurd (execDisable_next hexec).1 hp
  | poll => exact absurd (execPoll_next hexec).1 hp
  | sei => exact absurd (execSei_next hexec).1 hp
  | cli => exact absurd (execCli_next hexec).1 hp
  | hstep | convert _ | isr | advance _ => simp

/-- Settles O40: the owners of `last_clap`, `gie` and the phase are the interrupt, which is masked, and the host,
which can only go on with its poll. -/
theorem criticalSectionExcludesInterrupt : Obligations.CriticalSectionExcludesInterrupt := by
  intro s hinv hp
  have hgie := hinv.gie_of_criticalSection hp
  have hrefused := exec_isr_of_masked hgie
  refine ⟨hrefused, fun i t hexec => ?_⟩
  have hready : s.hp ≠ .ready := by obtain hp | hp := hp <;> simp [hp]
  have hhost := not_hostOperation_of_polling hexec hready
  simp only [List.mem_cons, List.not_mem_nil, or_false, not_or] at hhost
  obtain ⟨hinit, -, -, hpoll, hsei, hcli⟩ := hhost
  have hisr : i ≠ .isr := by
    rintro rfl
    exact nomatch hrefused.symm.trans hexec
  obtain ⟨htracker, -, -, -, -, -, -, -, -, hgieKept, hhpKept, -⟩ := onlyOwnersWrite i s t hexec
  obtain ⟨-, -, hlast⟩ := htracker hinit hisr
  exact ⟨hlast, fun hstep => ⟨(hgieKept hsei hcli hstep).trans hgie, (hhpKept hpoll hstep).1⟩⟩

/-! ## The register space and the bytes of a cell -/

theorem registerAt_eq_none {address : Nat} (h : address < 0x78 ∨ 0x7C < address) :
    registerAt address = none := by
  simp only [registerAt]
  repeat rw [if_neg (by omega)]

/-- No cell answers an access of another size than one byte or outside the register space (20_memory R67). -/
theorem cellAt_eq_none {address size : Nat} (h : size ≠ 1 ∨ address < 0x78 ∨ 0x7C < address) :
    cellAt address size = none := by
  by_cases hsize : size = 1
  · rw [cellAt, if_pos hsize, registerAt_eq_none (h.resolve_left (not_not_intro hsize))]
  · exact if_neg hsize

theorem hostAccess_refused {address size : Nat} (h : cellAt address size = none) (s : State) :
    hostReadAt address size s = .error .noSuchCell ∧
      ∀ v, hostWriteAt address size v s = .refused .noSuchCell := by
  simp [hostReadAt, hostWriteAt, h]

theorem length_cellBytes (c : Cell) (s : State) : (cellBytes c s).length = cellSize c := by
  cases c <;> rfl

/-- Four bytes at their little-endian weights. -/
theorem weightedBytes_eq (b₀ b₁ b₂ b₃ : Byte) :
    ([b₀, b₁, b₂, b₃].zipIdx.map fun (b, k) => b.toNat * 256 ^ k) =
      [b₀.toNat, b₁.toNat * 256, b₂.toNat * 256 ^ 2, b₃.toNat * 256 ^ 3] := by
  simp only [List.zipIdx_cons, List.zipIdx_nil, List.map_cons, List.map_nil, Nat.zero_add, Nat.reduceAdd,
    pow_zero, pow_one, mul_one]

/-- The sum is taken over opaque terms: over `b * 256 ^ 3` itself the kernel would count the weight out. -/
theorem sum_four_terms (a b c d : Nat) : [a, b, c, d].sum = a + (b + (c + d)) := by
  simp only [List.sum_cons, List.sum_nil, Nat.add_zero]

/-- `last_clap` is the number of its four bytes, the lowest address the least significant (20_memory R65). -/
theorem lastClap_littleEndian (s : State) :
    ((cellBytes .lastClap s).zipIdx.map fun (b, k) => b.toNat * 256 ^ k).sum = s.lastClap.toNat := by
  rw [cellBytes, weightedBytes_eq, sum_four_terms]
  simp only [memRead4, BitVec.extractLsb'_toNat, Nat.shiftRight_eq_div_pow]
  omega

/-- Settles O60: the five addresses compute, `cellAt` names no cell for any other access, and the bytes are
those of the cell. -/
theorem registerSpaceAndCells : Obligations.RegisterSpaceAndCells := by
  refine ⟨fun s => ⟨rfl, rfl, rfl, rfl, rfl⟩, fun address size s h => ?_, fun c s => ⟨length_cellBytes c s, ?_⟩⟩
  · exact hostAccess_refused (cellAt_eq_none h) s
  · rintro rfl
    exact lastClap_littleEndian s

end Sys2Proof.Machine

/-! PROOFS of the family 30_encoding: the decoder and the encoder, the assembler, steps and schedules, the derived
constants, event bytes, the pseudo-operations. -/

namespace Sys2Proof.Machine

/-! ## The halves of a word (30_encoding R86) -/

@[simp] theorem opcodeOf_wordOf (opcode operand : Byte) : opcodeOf (wordOf opcode operand) = opcode :=
  BitVec.extractLsb'_append_eq_left

@[simp] theorem operandOf_wordOf (opcode operand : Byte) : operandOf (wordOf opcode operand) = operand :=
  BitVec.extractLsb'_append_eq_right

theorem wordOf_opcodeOf_operandOf (w : Word) : wordOf (opcodeOf w) (operandOf w) = w :=
  BitVec.extractLsb'_append_extractLsb'_eq_extractLsb' (by rfl) |>.trans BitVec.extractLsb'_eq_self

/-- The mask of format V keeps the opcode (30_encoding R89). -/
theorem opcodeOf_and_formatV_mask (w : Word) : opcodeOf (w &&& 0xFF00) = opcodeOf w := by
  have hmask : opcodeOf 0xFF00 = BitVec.allOnes 8 := rfl
  calc opcodeOf (w &&& 0xFF00) = opcodeOf w &&& opcodeOf 0xFF00 := BitVec.extractLsb'_and
    _ = opcodeOf w := by rw [hmask, BitVec.and_allOnes]

/-- A word that a format-V row matches is the row's opcode over the word's operand. -/
theorem eq_wordOf_of_formatV_match {w : Word} {opcode : Byte} (h : w &&& 0xFF00 = wordOf opcode 0) :
    wordOf opcode (operandOf w) = w := by
  have hop : opcodeOf w = opcode := by rw [← opcodeOf_and_formatV_mask, h, opcodeOf_wordOf]
  rw [← hop, wordOf_opcodeOf_operandOf]

/-- A word that a format-N row matches is the row's pattern. -/
theorem eq_of_formatN_match {w p : Word} (h : w &&& 0xFFFF = p) : w = p :=
  BitVec.and_allOnes.symm.trans h

/-! ## The decoder and the encoder -/

theorem encodeRow_statement (i : Instr) : Laws.EncodeRow.Statement i := by
  cases i with
  | init => exact Laws.EncodeRow.init
  | enable => exact Laws.EncodeRow.enable
  | disable => exact Laws.EncodeRow.disable
  | poll => exact Laws.EncodeRow.poll
  | sei => exact Laws.EncodeRow.sei
  | cli => exact Laws.EncodeRow.cli
  | hstep => exact Laws.EncodeRow.hstep
  | convert v => exact Laws.EncodeRow.convert v
  | isr => exact Laws.EncodeRow.isr
  | advance k => exact Laws.EncodeRow.advance k

theorem decode_of_find {w : Word} {row : OpcodeRow}
    (h : (opcodeRows.find? fun r => w &&& r.mask == r.pattern) = some row) :
    decode w = .ok (row.build (operandOf w)) := by
  simp [decode, h]

@[simp] theorem decode_encode (i : Instr) : decode (encode i) = .ok i := by
  obtain ⟨-, row, hrow, hbuild⟩ := encodeRow_statement i
  have hfind : (opcodeRows.find? fun r => encode i &&& r.mask == r.pattern) = some row := by
    rw [← List.head?_filter, hrow, List.head?_cons]
  rw [decode_of_find hfind, hbuild]

/-- Settles O1: the word of an operation selects one row, which builds the operation back. -/
theorem decodeReadsEncoded : Obligations.DecodeReadsEncoded :=
  fun i _ => decode_encode i

/-- A row that matches a word builds the operation whose word it is (30_encoding R89). -/
theorem encode_build_of_match (w : Word) :
    ∀ row ∈ opcodeRows, w &&& row.mask = row.pattern → encode (row.build (operandOf w)) = w := by
  simp only [opcodeRows, List.forall_mem_cons]
  refine ⟨?_, ?_, ?_, ?_, ?_, ?_, ?_, fun h => ?convert, ?_, fun h => ?advance, by simp⟩
  case convert => exact eq_wordOf_of_formatV_match (opcode := 0x10) h
  case advance => exact eq_wordOf_of_formatV_match (opcode := 0x20) h
  all_goals exact fun h => (eq_of_formatN_match h).symm

theorem decode_eq_ok_of_match {w : Word} {row : OpcodeRow} (hrow : row ∈ opcodeRows)
    (h : w &&& row.mask = row.pattern) : decode w = .ok (row.build (operandOf w)) :=
  calc decode w = decode (encode (row.build (operandOf w))) := by rw [encode_build_of_match w row hrow h]
    _ = .ok (row.build (operandOf w)) := decode_encode _

/-- A word that decodes matches the row that builds its operation. -/
theorem exists_row_of_decode {w : Word} {i : Instr} (h : decode w = .ok i) :
    ∃ row ∈ opcodeRows, w &&& row.mask = row.pattern ∧ row.build (operandOf w) = i := by
  cases hf : opcodeRows.find? fun r => w &&& r.mask == r.pattern with
  | none => simp [decode, hf] at h
  | some row =>
    refine ⟨row, List.mem_of_find?_eq_some hf, by simpa using List.find?_some hf, ?_⟩
    exact Except.ok.inj ((decode_of_find hf).symm.trans h)

theorem encode_of_decode {w : Word} {i : Instr} (h : decode w = .ok i) : encode i = w := by
  obtain ⟨row, hrow, hmatch, rfl⟩ := exists_row_of_decode h
  exact encode_build_of_match w row hrow hmatch

/-- Settles O2: the row that decodes a word fixes its opcode, and its operand is kept or fixed to 0. -/
theorem encodeRebuildsDecodedWord : Obligations.EncodeRebuildsDecodedWord :=
  fun _ _ h => encode_of_decode h

theorem decode_error_of_forall_ne {w : Word} (h : ∀ i, encode i ≠ w) : ∃ r, decode w = .error r := by
  cases hd : decode w with
  | ok i => exact absurd (encode_of_decode hd) (h i)
  | error r => exact ⟨r, rfl⟩

/-! ## The opcode table -/

/-- Two rows that differ under their common mask match no word together. -/
theorem not_both_match {m p n q : Word} (h : p &&& n ≠ q &&& m) (w : Word) :
    ¬(w &&& m = p ∧ w &&& n = q) := by
  rintro ⟨rfl, rfl⟩
  exact h (by rw [BitVec.and_assoc, BitVec.and_comm m n, BitVec.and_assoc])

/-- Settles O3: rows are disjoint because any two differ under their common mask; a matched row builds the
operation of the word, and a word that decodes has a matching row. -/
theorem decodeFollowsOpcodeTable : Obligations.DecodeFollowsOpcodeTable := by
  refine ⟨?_, fun w => ?_⟩
  · refine List.Pairwise.imp (R := fun a b : Word × Word => a.2 &&& b.1 ≠ b.2 &&& a.1)
      (fun h => not_both_match h) ?_
    decide
  · have hmatch : ∀ row ∈ opcodeRows, w &&& row.mask = row.pattern →
        decode w = .ok (row.build (operandOf w)) := fun row hrow => decode_eq_ok_of_match hrow
    simp only [opcodeRows, List.forall_mem_cons] at hmatch
    obtain ⟨hinit, henable, hdisable, hpoll, hsei, hcli, hhstep, hconvert, hisr, hadvance, -⟩ := hmatch
    refine ⟨hinit, henable, hdisable, hpoll, hsei, hcli, hhstep, hconvert, hisr, hadvance, fun hnone => ?_⟩
    cases hd : decode w with
    | error reason => exact ⟨reason, rfl⟩
    | ok i =>
      obtain ⟨row, hrow, hmatch, -⟩ := exists_row_of_decode hd
      have hpair := List.mem_map_of_mem (f := fun r : OpcodeRow => (r.mask, r.pattern)) hrow
      exact absurd hmatch (hnone (row.mask, row.pattern) hpair)

/-- Every operation's opcode is in the map (30_encoding R88). -/
theorem encode_opcode_listed (i : Instr) :
    opcodeOf (encode i) ∈ ([0x01, 0x02, 0x03, 0x04, 0x05, 0x06, 0x07, 0x10, 0x11, 0x20] : List Byte) := by
  cases i <;> simp [encode]

/-- A word with an opcode of format N has no operand (30_encoding R88). -/
theorem encode_formatN_operand {i : Instr}
    (h : opcodeOf (encode i) ∈ ([0x01, 0x02, 0x03, 0x04, 0x05, 0x06, 0x07, 0x11] : List Byte)) :
    operandOf (encode i) = 0 := by
  cases i with
  | convert v | advance k => simp [encode] at h
  | init | enable | disable | poll | sei | cli | hstep | isr => exact operandOf_wordOf _ _

/-- Settles O4: a word that is no operation's does not decode, and a step that refuses marks the run. -/
theorem reservedWordRefusesRun : Obligations.ReservedWordRefusesRun := by
  intro w hw
  have hreserved : ∃ reason, decode w = .error reason := by
    refine decode_error_of_forall_ne fun i hi => ?_
    subst hi
    obtain hop | ⟨hop, hoperand⟩ := hw
    · exact hop (encode_opcode_listed i)
    · exact hoperand (encode_formatN_operand hop)
  refine ⟨hreserved, fun s rest hc hu hs => ?_⟩
  obtain ⟨reason, hd⟩ := hreserved
  have hstep : step s = .refused .reservedEncoding := by
    rw [step_eq_performWord hc hu hs, performWord_error hd]
  exact ⟨hstep, by rw [stepRecorded, hstep, recordOutcome_refused (by decide)]⟩

/-- Settles O5: each word is the encoding of its operation, bit by bit. -/
theorem specWordsDecode : Obligations.SpecWordsDecode :=
  ⟨decode_encode .init, decode_encode .enable, decode_encode .disable, decode_encode .poll, decode_encode .sei,
    decode_encode .cli, decode_encode .hstep, decode_encode (.convert 255), decode_encode .isr,
    decode_encode (.advance 170)⟩

/-! ## The assembler's characters and operands (30_encoding R94) -/

/-- A character that stands for itself in a word of a line: no blank, no comment, no end of the line. -/
def isPlain (c : Char) : Bool := !isBlank c && c != ';' && c != '\n'

theorem isPlain_iff {c : Char} : isPlain c = true ↔ isBlank c = false ∧ c ≠ ';' ∧ c ≠ '\n' := by
  simp [isPlain, and_assoc]

theorem isBlank_iff {c : Char} : isBlank c = true ↔ c = ' ' ∨ c = '\t' := by simp [isBlank]

/-- The ten decimal digits. -/
def decimalDigits : List Char := ['0', '1', '2', '3', '4', '5', '6', '7', '8', '9']

theorem mem_decimalDigits {c : Char} (h : c.isDigit = true) : c ∈ decimalDigits := by
  have hrange : 48 ≤ c.toNat ∧ c.toNat ≤ 57 := by
    simpa [Char.isDigit, UInt32.le_iff_toNat_le] using h
  obtain ⟨hlow, hhigh⟩ := hrange
  rw [← Char.ofNat_toNat c]
  generalize c.toNat = n at hlow hhigh
  interval_cases n <;> decide

theorem decimalDigits_read :
    (decimalDigits.all fun c => isPlain c && decimalDigit c == some (c.toNat - '0'.toNat)) = true := by decide

/-- A digit stands for itself in a line, and for its value in a number. -/
theorem isPlain_and_value_of_isDigit {c : Char} (h : c.isDigit = true) :
    isPlain c = true ∧ decimalDigit c = some (c.toNat - '0'.toNat) := by
  simpa using List.all_eq_true.mp decimalDigits_read c (mem_decimalDigits h)

theorem decimalFrom_of_isDigit {digits : List Char} (h : ∀ c ∈ digits, c.isDigit = true) (seen : Nat) :
    decimalFrom seen digits = some (Nat.ofDigitChars 10 digits seen) := by
  induction digits generalizing seen with
  | nil => rfl
  | cons c rest ih =>
    obtain ⟨hc, hrest⟩ := List.forall_mem_cons.mp h
    rw [decimalFrom, (isPlain_and_value_of_isDigit hc).2, Option.bind_some, ih hrest]
    rfl

/-- Decimal digits are a decimal operand: the `0x` form has its letter in the second place. The first two
digits are named one by one, so that the match on `'0'` and `'x'` computes. -/
theorem parseOperand_of_isDigit {digits : List Char} (hne : digits ≠ []) (h : ∀ c ∈ digits, c.isDigit = true) :
    parseOperand digits = (decimalFrom 0 digits).bind byteOfNat := by
  cases digits with
  | nil => exact absurd rfl hne
  | cons first rest =>
    obtain ⟨hfirst, hrest⟩ := List.forall_mem_cons.mp h
    obtain rfl | hnonzero := List.mem_cons.mp (mem_decimalDigits hfirst)
    · cases rest with
      | nil => rfl
      | cons second rest =>
        have hsecond := mem_decimalDigits (List.forall_mem_cons.mp hrest).1
        fin_cases hsecond <;> rfl
    · fin_cases hnonzero <;> rfl

theorem byteOfNat_toNat (v : Byte) : byteOfNat v.toNat = some v := by
  rw [byteOfNat, if_pos (by omega), BitVec.ofNat_toNat, BitVec.setWidth_eq]

theorem isDigit_toDigits (n : Nat) : ∀ c ∈ Nat.toDigits 10 n, c.isDigit = true :=
  fun _ hc => Nat.isDigit_of_mem_toDigits (by decide) (by decide) hc

/-- The digits that are written for a number are read back as it. -/
theorem decimalFrom_toDigits (n : Nat) : decimalFrom 0 (Nat.toDigits 10 n) = some n := by
  rw [decimalFrom_of_isDigit (isDigit_toDigits n), Nat.ofDigitChars_ten_toDigits]

theorem parseOperand_toDigits (v : Byte) : parseOperand (Nat.toDigits 10 v.toNat) = some v := by
  rw [parseOperand_of_isDigit Nat.toDigits_ne_nil (isDigit_toDigits _), decimalFrom_toDigits, Option.bind_some,
    byteOfNat_toNat]

/-- The sixteen capital hex digits. -/
def hexDigits : List Char := "0123456789ABCDEF".toList

theorem hexDigit_getD : ∀ d < 16, hexDigit (hexDigits.getD d '0') = some d ∧
    isPlain (hexDigits.getD d '0') = true := by decide

theorem parseOperand_prefixed (high low : Char) :
    parseOperand ['0', 'x', high, low] =
      (hexDigit high).bind fun h => (hexDigit low).bind fun l => byteOfNat (16 * h + l) := rfl

theorem parseOperand_hex (v : Byte) :
    parseOperand ['0', 'x', hexDigits.getD (v.toNat / 16) '0', hexDigits.getD (v.toNat % 16) '0'] = some v := by
  rw [parseOperand_prefixed, (hexDigit_getD _ (by omega)).1, Option.bind_some, (hexDigit_getD _ (by omega)).1,
    Option.bind_some, Nat.div_add_mod, byteOfNat_toNat]

theorem digitChar_eq : ∀ d < 10, digitChar d = Nat.digitChar d := by decide

/-- The printed operand is the decimal number of its byte. -/
theorem printByte_eq_toDigits (v : Byte) : printByte v = Nat.toDigits 10 v.toNat := by
  unfold printByte
  simp only
  split
  · rw [Nat.toDigits_of_lt_base (by assumption), digitChar_eq _ (by assumption)]
  split
  · rw [Nat.toDigits_of_base_le (by decide) (by omega), Nat.toDigits_of_lt_base (by omega),
      digitChar_eq _ (by omega), digitChar_eq _ (by omega)]
    rfl
  · rw [Nat.toDigits_of_base_le (by decide) (by omega), Nat.toDigits_of_base_le (by decide) (by omega),
      Nat.toDigits_of_lt_base (by omega), digitChar_eq _ (by omega), digitChar_eq _ (by omega),
      digitChar_eq _ (by omega), Nat.div_div_eq_div_mul]
    rfl

/-! ## The words of a line -/

theorem lineWords_eq (line : List Char) :
    lineWords line = (line.splitOnP isBlank).filter fun piece => !piece.isEmpty := by
  unfold lineWords
  simp only
  congr 1
  induction line with
  | nil => rfl
  | cons c rest ih =>
    rw [List.foldr_cons, ih, List.splitOnP_cons_eq_if_modifyHead]
    cases hs : rest.splitOnP isBlank with
    | nil => exact absurd hs (List.splitOnP_ne_nil _ _)
    | cons piece others => rfl

theorem textLines_eq (text : List Char) : textLines text = text.splitOnP (· == '\n') := by
  unfold textLines
  induction text with
  | nil => rfl
  | cons c rest ih =>
    rw [List.foldr_cons, ih, List.splitOnP_cons_eq_if_modifyHead]
    cases hs : rest.splitOnP (· == '\n') with
    | nil => exact absurd hs (List.splitOnP_ne_nil _ _)
    | cons line others => rfl

/-- A word of a line: characters that stand for themselves, at least one. -/
def isWord (word : List Char) : Bool := !word.isEmpty && word.all isPlain

theorem isWord_iff {word : List Char} : isWord word = true ↔ word ≠ [] ∧ ∀ c ∈ word, isPlain c = true := by
  simp [isWord]

theorem not_isBlank_of_isWord {word : List Char} (h : isWord word = true) : ∀ c ∈ word, isBlank c = false :=
  fun c hc => (isPlain_iff.mp ((isWord_iff.mp h).2 c hc)).1

theorem ne_semicolon_of_isWord {word : List Char} (h : isWord word = true) : ∀ c ∈ word, c ≠ ';' :=
  fun c hc => (isPlain_iff.mp ((isWord_iff.mp h).2 c hc)).2.1

theorem ne_newline_of_isWord {word : List Char} (h : isWord word = true) : ∀ c ∈ word, c ≠ '\n' :=
  fun c hc => (isPlain_iff.mp ((isWord_iff.mp h).2 c hc)).2.2

theorem lineWords_word {word : List Char} (h : isWord word = true) : lineWords word = [word] := by
  rw [lineWords_eq, List.splitOnP_eq_singleton (not_isBlank_of_isWord h)]
  simp [(isWord_iff.mp h).1]

theorem lineWords_word_blank {word : List Char} (h : isWord word = true) (rest : List Char) :
    lineWords (word ++ ' ' :: rest) = word :: lineWords rest := by
  rw [lineWords_eq, lineWords_eq, List.splitOnP_append_cons_of_forall_mem (not_isBlank_of_isWord h) ' ' rfl]
  simp [(isWord_iff.mp h).1]

theorem lineWords_blanks {line : List Char} (h : ∀ c ∈ line, isBlank c = true) : lineWords line = [] := by
  rw [lineWords_eq]
  induction line with
  | nil => rfl
  | cons c rest ih =>
    obtain ⟨hc, hrest⟩ := List.forall_mem_cons.mp h
    rw [List.splitOnP_cons_eq_if_modifyHead, if_pos hc]
    exact ih hrest

/-! ## Lines -/

theorem stripComment_of_not_mem {line : List Char} (h : ';' ∉ line) : stripComment line = line := by
  refine List.takeWhile_eq_self_iff.mpr fun c hc => ?_
  simpa using fun hcs : c = ';' => h (hcs ▸ hc)

theorem stripComment_comment {line : List Char} (h : ';' ∉ line) (comment : List Char) :
    stripComment (line ++ ';' :: comment) = line := by
  have hall : ∀ c ∈ line, (c != ';') = true := fun c hc => by simpa using fun hcs : c = ';' => h (hcs ▸ hc)
  rw [stripComment, List.takeWhile_append_of_pos hall]
  simp

theorem parseLine_comment {line : List Char} (h : ';' ∉ line) (comment : List Char) :
    parseLine (line ++ ';' :: comment) = parseLine line := by
  simp only [parseLine, stripComment_comment h, stripComment_of_not_mem h]

theorem parseLine_blanks {line : List Char} (h : ∀ c ∈ line, c = ' ' ∨ c = '\t') : parseLine line = some none := by
  have hblank : ∀ c ∈ line, isBlank c = true := fun c hc => isBlank_iff.mpr (h c hc)
  have hcomment : ';' ∉ line := fun hc => by simpa using h ';' hc
  simp only [parseLine, stripComment_of_not_mem hcomment, lineWords_blanks hblank]

theorem no_comment_of_isWord {word : List Char} (h : isWord word = true) : ';' ∉ word :=
  fun hc => ne_semicolon_of_isWord h _ hc rfl

/-- A line of one word is a mnemonic of format N. -/
theorem parseLine_word {name : List Char} (h : isWord name = true) :
    parseLine name = (mnemonicsN.lookup name).map some := by
  simp only [parseLine, stripComment_of_not_mem (no_comment_of_isWord h), lineWords_word h]

/-- A line of two words is a mnemonic of format V and its operand. -/
theorem parseLine_word_word {name operand : List Char} (hn : isWord name = true) (ho : isWord operand = true) :
    parseLine (name ++ ' ' :: operand) =
      (mnemonicsV.lookup name).bind fun build => (parseOperand operand).map fun v => some (build v) := by
  have hcomment : ';' ∉ name ++ ' ' :: operand := by
    simp [no_comment_of_isWord hn, no_comment_of_isWord ho]
  simp only [parseLine, stripComment_of_not_mem hcomment, lineWords_word_blank hn, lineWords_word ho]

theorem isWord_toDigits (n : Nat) : isWord (Nat.toDigits 10 n) = true :=
  isWord_iff.mpr ⟨Nat.toDigits_ne_nil, fun c hc => (isPlain_and_value_of_isDigit (isDigit_toDigits n c hc)).1⟩

theorem isWord_hex (v : Byte) :
    isWord ['0', 'x', hexDigits.getD (v.toNat / 16) '0', hexDigits.getD (v.toNat % 16) '0'] = true := by
  refine isWord_iff.mpr ⟨by simp, ?_⟩
  simp only [List.forall_mem_cons]
  exact ⟨by decide, by decide, (hexDigit_getD _ (by omega)).2, (hexDigit_getD _ (by omega)).2, by simp⟩

/-! ## Mnemonics (30_encoding R88) -/

theorem mnemonicsN_read :
    (mnemonicsN.all fun entry => isWord entry.1 && mnemonicsN.lookup entry.1 == some entry.2) = true := by
  decide

theorem isWord_of_mem_mnemonicsN {name : List Char} {i : Instr} (h : (name, i) ∈ mnemonicsN) :
    isWord name = true ∧ mnemonicsN.lookup name = some i := by
  simpa using List.all_eq_true.mp mnemonicsN_read _ h

theorem parseLine_formatN {name : List Char} {i : Instr} (h : (name, i) ∈ mnemonicsN) :
    parseLine name = some (some i) := by
  obtain ⟨hword, hlookup⟩ := isWord_of_mem_mnemonicsN h
  rw [parseLine_word hword, hlookup, Option.map_some]

theorem mnemonicsV_read :
    ∀ entry ∈ mnemonicsV, isWord entry.1 = true ∧ mnemonicsV.lookup entry.1 = some entry.2 := by
  simp only [mnemonicsV, List.forall_mem_cons]
  exact ⟨⟨by decide, rfl⟩, ⟨by decide, rfl⟩, by simp⟩

theorem parseLine_formatV {name operand : List Char} {build : Byte → Instr} {v : Byte}
    (h : (name, build) ∈ mnemonicsV) (hword : isWord operand = true) (hv : parseOperand operand = some v) :
    parseLine (name ++ ' ' :: operand) = some (some (build v)) := by
  obtain ⟨hname, hlookup⟩ := mnemonicsV_read _ h
  rw [parseLine_word_word hname hword, hlookup, Option.bind_some, hv, Option.map_some]

/-! ## Printed programs -/

/-- A printed operation is a mnemonic of format N, or one of format V with its operand in decimal. -/
theorem printInstr_cases (i : Instr) :
    (printInstr i, i) ∈ mnemonicsN ∨
      ∃ name build v, (name, build) ∈ mnemonicsV ∧ i = build v ∧
        printInstr i = name ++ ' ' :: Nat.toDigits 10 v.toNat := by
  cases i with
  | convert v => exact .inr ⟨_, _, v, .head _, rfl, by rw [← printByte_eq_toDigits]; rfl⟩
  | advance k => exact .inr ⟨_, _, k, .tail _ (.head _), rfl, by rw [← printByte_eq_toDigits]; rfl⟩
  | init | enable | disable | poll | sei | cli | hstep | isr => exact .inl (by decide)

theorem parseLine_printInstr (i : Instr) : parseLine (printInstr i) = some (some i) := by
  obtain h | ⟨name, build, v, h, hi, hprint⟩ := printInstr_cases i
  · exact parseLine_formatN h
  · rw [hprint, hi]
    exact parseLine_formatV h (isWord_toDigits _) (parseOperand_toDigits v)

theorem printInstr_one_line (i : Instr) : ∀ c ∈ printInstr i, (c == '\n') = false := by
  intro c hc
  refine beq_eq_false_iff_ne.mpr ?_
  obtain h | ⟨name, build, v, h, -, hprint⟩ := printInstr_cases i
  · exact ne_newline_of_isWord (isWord_of_mem_mnemonicsN h).1 c hc
  · rw [hprint] at hc
    obtain hname | hc := List.mem_append.mp hc
    · exact ne_newline_of_isWord (mnemonicsV_read _ h).1 c hname
    · obtain rfl | hdigits := List.mem_cons.mp hc
      · decide
      · exact ne_newline_of_isWord (isWord_toDigits _) c hdigits

/-- A printed operation and a line feed put the operation's word before the rest of the program. -/
theorem assemble_printInstr (i : Instr) (text : List Char) :
    assemble (printInstr i ++ '\n' :: text) = (assemble text).map (encode i :: ·) := by
  simp only [assemble, textLines_eq]
  rw [List.splitOnP_append_cons_of_forall_mem (printInstr_one_line i) '\n' rfl]
  simp only [assembleLines, parseLine_printInstr, Option.bind_some]

theorem assemble_nil : assemble [] = some [] := rfl

theorem assemble_printed (program : List Instr) :
    assemble (program.flatMap fun i => printInstr i ++ ['\n']) = some (program.map encode) := by
  induction program with
  | nil => exact assemble_nil
  | cons i rest ih =>
    rw [List.flatMap_cons, List.append_assoc, List.singleton_append, assemble_printInstr, ih]
    rfl

/-- Settles O6: each line is one word, two words, blank or a line and a comment; a program is its lines. -/
theorem assemblerReadsPrintedLine : Obligations.AssemblerReadsPrintedLine := by
  refine ⟨fun entry h => ?_, fun entry h v => ?_, fun line comment h => parseLine_comment h comment,
    fun line h => parseLine_blanks h, parseLine_printInstr, assemble_printed⟩
  · exact parseLine_formatN (List.mem_map_of_mem (f := fun e : String × Instr => (e.1.toList, e.2)) h)
  · have hmem := List.mem_map_of_mem (f := fun e : String × (Byte → Instr) => (e.1.toList, e.2)) h
    exact ⟨parseLine_formatV hmem (isWord_toDigits _) (parseOperand_toDigits v),
      parseLine_formatV hmem (isWord_hex v) (parseOperand_hex v)⟩

/-! ## Enabled operations, said forwards -/

section Enabled
variable {s : State}

theorem exec_init_of_ready (hr : s.hp = .ready) (ha : s.adie = false) :
    exec .init s = .next (initRegisters (initCells s)) := by
  simp [exec, execInit, hostReady_iff.mpr hr, ha]

theorem exec_enable_of_ready (hr : s.hp = .ready) (hi : s.initialized = true) :
    exec .enable s = .next (countDraw (setInterruptEnable true (Config.clearDraw s.draws) s)) := by
  simp [exec, execEnable, hostReady_iff.mpr hr, hi]

theorem exec_sei_of_ready (hr : s.hp = .ready) : exec .sei s = .next { s with gie := true } := by
  simp [exec, execSei, hostReady_iff.mpr hr]

theorem exec_poll_of_ready (hr : s.hp = .ready) : exec .poll s = .next (pRead1 s) := by
  simp [exec, execPoll, hostReady_iff.mpr hr]

theorem exec_hstep_of_polling (hp : s.hp ≠ .ready) : exec .hstep s = .next (microStep s) := by
  simp [exec, execHstep, hostReady_eq_false.mpr hp]

theorem exec_convert_of_running (v : Byte) (ha : s.aden = true) (hc : s.convRunning = true) :
    exec (.convert v) s = .next (countDraw (completeConversion v (Config.adclDraw s.draws) s)) := by
  simp [exec, execConvert, converterOn_iff.mpr ⟨ha, hc⟩, sampleOperand]

theorem exec_isr_of_taken (hf : s.adif = true) (he : s.adie = true) (hg : s.gie = true) :
    exec .isr s = .next (interruptReturn (serviceSample (interruptEnter s))) := by
  simp [exec, execIsr, interruptTaken_iff.mpr ⟨hf, he, hg⟩]

theorem exec_advance (k : Byte) (s : State) :
    exec (.advance k) s = .next { s with envMs := s.envMs + k.setWidth 32 } := rfl

/-- A word of the host that starts at Ready has no step during a poll (30_encoding R90). -/
theorem exec_refused_of_polling (hp : s.hp ≠ .ready) {i : Instr}
    (hi : i ∈ [Instr.init, .enable, .disable, .poll, .sei, .cli]) : exec i s = .refused .notEnabled := by
  have hready := hostReady_eq_false.mpr hp
  cases i with
  | init => simp [exec, execInit, hready]
  | enable => simp [exec, execEnable, hready]
  | disable => simp [exec, execDisable, hready]
  | poll => simp [exec, execPoll, hready]
  | sei => simp [exec, execSei, hready]
  | cli => simp [exec, execCli, hready]
  | hstep | convert _ | isr | advance _ => simp at hi

theorem exec_hstep_refused_of_ready (hr : s.hp = .ready) : exec .hstep s = .refused .notEnabled := by
  simp [exec, execHstep, hostReady_iff.mpr hr]

end Enabled

/-- Settles O48: the enabling condition of every host word compares the phase with Ready. -/
theorem hostWordsFollowPhase : Obligations.HostWordsFollowPhase := fun s =>
  ⟨fun hp => ⟨fun _ hi => exec_refused_of_polling hp hi, microStep s, exec_hstep_of_polling hp⟩,
    exec_hstep_refused_of_ready⟩

/-! ## The step of a schedule -/

/-- Settles O7: the step performs the head of the schedule, and a word that decodes performs its operation. -/
theorem stepRunsDecodedOperation : Obligations.StepRunsDecodedOperation := by
  intro s w rest i hc hu hs hd
  rw [step_eq_performWord hc hu hs, performWord_ok hd]

/-- `s` with another schedule. -/
def withSchedule (words : List Word) (s : State) : State := { s with schedule := words }

theorem blocked_withSchedule (words : List Word) (s : State) : blocked (withSchedule words s) = blocked s := rfl

theorem trackerStep_withSchedule (words : List Word) (input : Byte) (s : State) :
    trackerStep input (withSchedule words s) = withSchedule words (trackerStep input s) := by
  have hdet : detects input (withSchedule words s) = detects input s := rfl
  simp only [trackerStep, hdet, apply_ite (withSchedule words)]
  rfl

theorem microStep_withSchedule (words : List Word) (s : State) :
    microStep (withSchedule words s) = withSchedule words (microStep s) := by
  have hhp : (withSchedule words s).hp = s.hp := rfl
  unfold microStep
  rw [hhp]
  cases s.hp with
  | pRead2 => simp only [pRead2, apply_ite (withSchedule words)]; rfl
  | pInprog => simp only [pInprog, apply_ite (withSchedule words)]; rfl
  | pCmp => simp only [pCmp, apply_ite (withSchedule words)]; rfl
  | pSnap => simp only [pSnap, apply_ite (withSchedule words)]; rfl
  | ready | pRead1 | pCsEnter | pCsRead | pCsExit | pNow | pRmwRead | pRmwWrite | pFinDone => rfl

/-- No operation reads or writes the schedule (30_encoding R96). -/
theorem exec_withSchedule (words : List Word) (i : Instr) (s : State) :
    exec i (withSchedule words s) = mapNext (withSchedule words) (exec i s) := by
  cases i with
  | init =>
    simp only [exec, execInit, mapNext_whenEnabled, apply_ite (mapNext (withSchedule words))]
    rfl
  | enable =>
    simp only [exec, execEnable, mapNext_whenEnabled, apply_ite (mapNext (withSchedule words)),
      setInterruptEnable_eq]
    rfl
  | disable =>
    simp only [exec, execDisable, mapNext_whenEnabled, setInterruptEnable_eq]
    rfl
  | poll => simp only [exec, execPoll, mapNext_whenEnabled]; rfl
  | sei => simp only [exec, execSei, mapNext_whenEnabled]; rfl
  | cli => simp only [exec, execCli, mapNext_whenEnabled]; rfl
  | hstep =>
    simp only [exec, execHstep, mapNext_whenEnabled, mapNext_next, microStep_withSchedule]
    rfl
  | convert v => simp only [exec, execConvert, mapNext_whenEnabled]; rfl
  | isr =>
    have hservice : serviceSample (interruptEnter (withSchedule words s)) =
        withSchedule words (serviceSample (interruptEnter s)) :=
      trackerStep_withSchedule words s.adch (interruptEnter s)
    simp only [exec, execIsr, mapNext_whenEnabled, mapNext_next, hservice]
    rfl
  | advance k => rfl

theorem performWord_withSchedule (words : List Word) (w : Word) (s : State) :
    performWord w (withSchedule words s) = mapNext (withSchedule words) (performWord w s) := by
  cases hd : decode w with
  | ok i => rw [performWord_ok hd, performWord_ok hd, exec_withSchedule]
  | error r => rw [performWord_error hd, performWord_error hd]; rfl

theorem step_withSchedule_cons {s : State} (hb : blocked s = none) (w : Word) (rest : List Word) :
    step (withSchedule (w :: rest) s) = mapNext (withSchedule rest) (performWord w s) := by
  obtain ⟨hc, hu⟩ := blocked_eq_none_iff.mp hb
  rw [step_eq_performWord (s := withSchedule (w :: rest) s) hc hu rfl, ← performWord_withSchedule]
  rfl

theorem run_succ_of_next {s t : State} (h : step s = .next t) (n : Nat) :
    Host.Core.run core (n + 1) s = Host.Core.run core n t := by
  have hcore : core.step s = .next t := h
  simp only [Host.Core.run, hcore]

theorem run_succ_of_fault {s : State} {r : Fault} (h : step s = .fault r) (n : Nat) :
    Host.Core.run core (n + 1) s = .fault r := by
  have hcore : core.step s = .fault r := h
  simp only [Host.Core.run, hcore]

theorem run_succ_of_refused {s : State} {r : Refusal} (h : step s = .refused r) (n : Nat) :
    Host.Core.run core (n + 1) s = .refused r := by
  have hcore : core.step s = .refused r := h
  simp only [Host.Core.run, hcore]

/-- The steps of a schedule against the program performed without one, from the same rest of the state. -/
theorem run_withSchedule (words : List Word) (s : State) :
    Host.Core.run core words.length (withSchedule words s) = perform words (withSchedule [] s) := by
  induction words generalizing s with
  | nil => rfl
  | cons w rest ih =>
    rw [List.length_cons, perform, blocked_withSchedule, performWord_withSchedule]
    cases hb : blocked s with
    | some o =>
      have hstep : step (withSchedule (w :: rest) s) = o := step_of_blocked hb
      obtain ⟨r, -, rfl⟩ | ⟨-, rfl⟩ | ⟨e, -, rfl⟩ := blocked_eq_some hb
      · exact run_succ_of_fault hstep _
      · exact run_succ_of_refused hstep _
      · exact run_succ_of_refused hstep _
    | none =>
      have hstep := step_withSchedule_cons hb w rest
      cases hw : performWord w s with
      | next t => rw [hw] at hstep; exact (run_succ_of_next hstep _).trans (ih t)
      | fault r => rw [hw] at hstep; exact run_succ_of_fault hstep _
      | refused r => rw [hw] at hstep; exact run_succ_of_refused hstep _

/-- Settles O8, by induction on the schedule: a step and a performed word differ in the schedule they leave alone. -/
theorem stepsOfScheduleAreProgram : Obligations.StepsOfScheduleAreProgram :=
  fun s => run_withSchedule s.schedule s

/-! ## Constants of a valid configuration -/

/-- The code the driver writes for a divider divides by it (30_encoding R84). -/
theorem divisionOf_adpsCodeOf : ∀ d ∈ divisions, divisionOf (adpsCodeOf d) = d := by decide

theorem debBase_add_debHi {c : Config} (h : ValidConfig c) : c.debBase + (c.debHi + 1) = c.maxT.toNat := by
  obtain ⟨-, -, -, hhi, -⟩ := validConfig_iff.mp h
  exact Nat.sub_add_cancel hhi

theorem debCdByte_toNat (c : Config) : c.debCdByte.toNat = c.debCd := by
  have hlt : c.debCd < 256 := Nat.mod_lt _ (by decide)
  rw [Config.debCdByte, BitVec.toNat_ofNat, Nat.mod_eq_of_lt (by omega)]

/-- Settles O23: each constant's bound is one of the eight checks, or a remainder. -/
theorem validConstantsFit : Obligations.ValidConstantsFit := by
  intro c h
  obtain ⟨hthresh, hdelta, -, -, -, -, hclock, -⟩ := validConfig_iff.mp h
  obtain ⟨hdivision, -⟩ := clockOk_iff.mp hclock
  exact ⟨debBase_add_debHi h, debBaseByte_toNat h, debCdByte_toNat c, peakTimeoutByte_toNat h, hdelta,
    Nat.sub_pos_of_lt hthresh, divisionOf_adpsCodeOf _ hdivision⟩

/-! ## Event bytes (30_encoding R92, R93) -/

theorem toInt_of_le {n : Byte} (h : n.toNat ≤ 127) : n.toInt = n.toNat :=
  BitVec.toInt_eq_toNat_of_lt (by omega)

/-- A byte from 1 to 126, negated, is read as the negative number. -/
theorem toInt_zero_sub {n : Byte} (h1 : 1 ≤ n.toNat) (h126 : n.toNat ≤ 126) : (0 - n).toInt = -(n.toNat : Int) := by
  have hsub : (0 - n).toNat = 256 - n.toNat := by bv_omega
  rw [BitVec.toInt_eq_toNat_cond, hsub, if_neg (by omega)]
  omega

/-- The event of a byte; for the byte of the collision it is `SeriesFinished(127)`. -/
def eventOfByte (v : Byte) : Event :=
  if v = 0 then .noEvent else if v.toNat ≤ 127 then .seriesFinished v else .seriesInProgress (0 - v)

/-- The byte of any event in range but Overflow names it (30_encoding R93). -/
theorem eventOfByte_toInt8 {e : Event} (hr : eventInRange e = true) (hne : e ≠ .overflow) :
    eventOfByte e.toInt8 = e := by
  cases e with
  | noEvent => rfl
  | overflow => exact absurd rfl hne
  | seriesFinished n =>
    obtain ⟨h1, h127⟩ := eventInRange_seriesFinished.mp hr
    have h0 : n ≠ 0 := by bv_omega
    simp only [Event.toInt8, eventOfByte, h0, h127, if_true, if_false]
  | seriesInProgress n =>
    obtain ⟨h1, h126⟩ := eventInRange_seriesInProgress.mp hr
    have h0 : 0 - n ≠ 0 := by bv_omega
    have hneg : ¬ (0 - n).toNat ≤ 127 := by bv_omega
    have hback : 0 - (0 - n) = n := by bv_omega
    simp only [Event.toInt8, eventOfByte, h0, hneg, if_false, hback]

theorem eventOfByte_overflow : eventOfByte (Event.toInt8 .overflow) = .seriesFinished 127 := rfl

/-- Settles O55: an event other than Overflow is read back from its byte, and Overflow's byte is read back as
`SeriesFinished(127)`. -/
theorem eventBytes : Obligations.EventBytes := by
  refine ⟨rfl, rfl, fun n h1 h126 => toInt_zero_sub h1 h126, fun n _ h127 => toInt_of_le h127, ?_⟩
  intro a b ha hb hab
  have hsame := congrArg eventOfByte hab
  by_cases hoa : a = .overflow <;> by_cases hob : b = .overflow
  · exact .inl (hoa.trans hob.symm)
  · rw [hoa, eventOfByte_overflow, eventOfByte_toInt8 hb hob] at hsame
    exact .inr (.inl ⟨hoa, hsame.symm⟩)
  · rw [hob, eventOfByte_overflow, eventOfByte_toInt8 ha hoa] at hsame
    exact .inr (.inr ⟨hsame, hob⟩)
  · rw [eventOfByte_toInt8 ha hoa, eventOfByte_toInt8 hb hob] at hsame
    exact .inl hsame

/-! ## Programs of operation words -/

/-- What a program needs of the state that it starts from: a run, and no mark. -/
def CanRun (s : State) : Prop := ValidConfig s.cfg ∧ Unmarked s

theorem CanRun.exec {s t : State} {i : Instr} (h : CanRun s) (ht : exec i s = .next t) : CanRun t := by
  obtain ⟨hc, hf, hr⟩ := h
  obtain ⟨hcfg, hfault, hrefused, -⟩ := exec_frame ht
  exact ⟨hcfg ▸ hc, hfault.trans hf, hrefused.trans hr⟩

theorem perform_encode_cons {s t : State} {i : Instr} (h : CanRun s) (ht : exec i s = .next t)
    (rest : List Word) : perform (encode i :: rest) s = perform rest t :=
  perform_cons h.1 h.2 (decode_encode i) ht

/-! ## WAIT (30_encoding R95) -/

theorem perform_replicate_advance (k : Byte) (n : Nat) {s : State} (h : CanRun s) :
    perform (List.replicate n (encode (.advance k))) s =
      .next { s with envMs := s.envMs + BitVec.ofNat 32 (n * k.toNat) } := by
  induction n generalizing s with
  | zero => simp [perform_nil]
  | succ n ih =>
    have hclock : s.envMs + k.setWidth 32 + BitVec.ofNat 32 (n * k.toNat) =
        s.envMs + BitVec.ofNat 32 ((n + 1) * k.toNat) := by
      rw [BitVec.add_assoc, ← BitVec.ofNat_toNat, ← BitVec.ofNat_add, Nat.succ_mul, Nat.add_comm k.toNat]
    rw [List.replicate_succ, perform_encode_cons h (exec_advance k s),
      ih (s := { s with envMs := s.envMs + k.setWidth 32 }) h, hclock]

/-- The words of `WAIT k` are k / 255 full advances and one of the remainder, which the last clause may leave out. -/
theorem perform_waitWords (k : Nat) {s : State} (h : CanRun s) :
    perform (waitWords k) s = .next { s with envMs := s.envMs + BitVec.ofNat 32 k } := by
  rw [waitWords, perform_append (perform_replicate_advance 255 (k / 255) h)]
  have hfull : k / 255 * (255 : Byte).toNat + k % 255 = k := by
    rw [Nat.mul_comm]; exact Nat.div_add_mod k 255
  split
  case isTrue h0 =>
    have hk : k / 255 * (255 : Byte).toNat = k := by omega
    rw [perform_nil, hk]
  case isFalse =>
    have hbyte : (BitVec.ofNat 8 (k % 255)).toNat = k % 255 := by
      rw [BitVec.toNat_ofNat, Nat.mod_eq_of_lt (by omega)]
    have hlast := perform_replicate_advance (BitVec.ofNat 8 (k % 255)) 1
      (s := { s with envMs := s.envMs + BitVec.ofNat 32 (k / 255 * (255 : Byte).toNat) }) h
    rw [List.replicate_one, hbyte, Nat.one_mul, BitVec.add_assoc, ← BitVec.ofNat_add, hfull] at hlast
    exact hlast

/-- Settles O36: the operands of the words add up to k. -/
theorem waitAdvancesClock : Obligations.WaitAdvancesClock :=
  fun k _ hc hu => perform_waitWords k ⟨hc, hu⟩

/-! ## BOOT (30_encoding R95, 70_reset R263) -/

theorem setInterruptEnable_hp (e d : Bool) (s : State) : (setInterruptEnable e d s).hp = s.hp := by
  rw [setInterruptEnable_eq]

/-- What `ENABLE` leaves of the sampler: the interrupt unmasked at the source, all else as it was. -/
theorem setInterruptEnable_sampler (d : Bool) (s : State) :
    (setInterruptEnable true d s).adie = true ∧ (setInterruptEnable true d s).aden = s.aden ∧
      (setInterruptEnable true d s).freeRunning = s.freeRunning := by
  cases d <;> simp [setInterruptEnable]

/-- Settles O35: `INIT` leaves the converter on and free-running, `ENABLE` sets ADIE, and `SEI` sets gie. -/
theorem bootArmsSampler : Obligations.BootArmsSampler := by
  intro s hc hu hr ha
  have hrun : CanRun s := ⟨hc, hu⟩
  have hinit := exec_init_of_ready hr ha
  have henable := exec_enable_of_ready (s := initRegisters (initCells s)) hr rfl
  have hready : (countDraw (setInterruptEnable true (Config.clearDraw s.draws)
      (initRegisters (initCells s)))).hp = .ready := (setInterruptEnable_hp _ _ _).trans hr
  have hboot : performPseudo .boot s = .next { countDraw (setInterruptEnable true (Config.clearDraw s.draws)
      (initRegisters (initCells s))) with gie := true } := by
    rw [performPseudo, expandPseudo, perform_encode_cons hrun hinit, perform_encode_cons (hrun.exec hinit) henable,
      perform_encode_cons ((hrun.exec hinit).exec henable) (exec_sei_of_ready hready), perform_nil]
    rfl
  obtain ⟨-, hon, -⟩ := converterOk_initRegisters (initCells s) rfl
  obtain ⟨haden, hfree, hconv⟩ := hon rfl
  obtain ⟨hadie, haden', hfree'⟩ :=
    setInterruptEnable_sampler (Config.clearDraw s.draws) (initRegisters (initCells s))
  refine ⟨_, hboot, ?_, haden'.trans haden, ?_, hfree'.trans hfree, hadie, rfl, hready, ?_, ?_, ?_⟩
  all_goals rw [setInterruptEnable_eq]
  case refine_2 => exact hconv
  all_goals rfl

/-! ## SAMPLE on an armed block (30_encoding R95, 70_reset R270) -/

/-- The converter runs freely and its interrupt is enabled and unmasked. -/
structure Armed (s : State) : Prop where
  aden : s.aden = true
  convRunning : s.convRunning = true
  freeRunning : s.freeRunning = true
  adie : s.adie = true
  gie : s.gie = true

/-- `s` with the registers, the converter, the mask and the draws of `x`: what `CONVERT` and `ISR` write beside
the tracker's cells. -/
def withConverter (x s : State) : State :=
  { s with
    adcsra := x.adcsra, adch := x.adch, adcl := x.adcl, convRunning := x.convRunning
    gie := x.gie, draws := x.draws }

theorem trackerStep_withConverter (input : Byte) (x s : State) :
    trackerStep input (withConverter x s) = withConverter x (trackerStep input s) := by
  have hdet : detects input (withConverter x s) = detects input s := rfl
  simp only [trackerStep, hdet, apply_ite (withConverter x)]
  rfl

theorem trackSamples_withConverter (inputs : List Byte) (x s : State) :
    trackSamples inputs (withConverter x s) = withConverter x (trackSamples inputs s) := by
  induction inputs generalizing s with
  | nil => rfl
  | cons v rest ih => rw [trackSamples, trackerStep_withConverter, ih, trackSamples]

theorem trackSamples_frame (inputs : List Byte) (s : State) :
    (trackSamples inputs s).hp = s.hp ∧ (trackSamples inputs s).events = s.events := by
  induction inputs generalizing s with
  | nil => exact ⟨rfl, rfl⟩
  | cons v rest ih =>
    obtain ⟨hhp, hevents⟩ := ih (trackerStep v s)
    rw [trackerStep_frame] at hhp hevents
    exact ⟨by rw [trackSamples, trackerStep_frame, hhp], by rw [trackSamples, trackerStep_frame, hevents]⟩

/-- The state that `CONVERT v` leaves. -/
def afterConvert (v : Byte) (s : State) : State :=
  countDraw (completeConversion v (Config.adclDraw s.draws) s)

/-- The state that `SAMPLE v` leaves. -/
def afterSample (v : Byte) (s : State) : State :=
  interruptReturn (serviceSample (interruptEnter (afterConvert v s)))

theorem Armed.afterConvert {s : State} (h : Armed s) (v : Byte) : Armed (afterConvert v s) where
  aden := (setAdif_aden true _).trans h.aden
  convRunning := by simp [Machine.afterConvert, completeConversion, h.freeRunning, h.convRunning]
  freeRunning := (setAdif_freeRunning true _).trans h.freeRunning
  adie := (setAdif_adie true _).trans h.adie
  gie := h.gie

theorem afterConvert_adif (v : Byte) (s : State) : (afterConvert v s).adif = true := setAdif_adif true _

/-- The service routine leaves the sampler armed: it clears ADIF and returns unmasked (60_exceptions R232). -/
theorem Armed.afterIsr {s : State} (h : Armed s) : Armed (interruptReturn (serviceSample (interruptEnter s))) := by
  rw [serviceSample_eq, trackerStep_frame]
  exact ⟨(setAdif_aden false s).trans h.aden, h.convRunning, (setAdif_freeRunning false s).trans h.freeRunning,
    (setAdif_adie false s).trans h.adie, rfl⟩

theorem Armed.afterSample {s : State} (h : Armed s) (v : Byte) : Armed (afterSample v s) :=
  (h.afterConvert v).afterIsr

/-- A sample is one tracker step on its value, beside the converter's part. -/
theorem afterSample_eq (v : Byte) (s : State) :
    afterSample v s = withConverter (interruptReturn (interruptEnter (afterConvert v s))) (trackerStep v s) := by
  have henter : interruptEnter (afterConvert v s) =
      withConverter (interruptEnter (afterConvert v s)) s := rfl
  have hadch : (interruptEnter (afterConvert v s)).adch = v := rfl
  rw [afterSample, serviceSample_eq, hadch, henter, trackerStep_withConverter]
  rfl

theorem exec_convert_of_armed {s : State} (h : Armed s) (v : Byte) :
    exec (.convert v) s = .next (afterConvert v s) :=
  exec_convert_of_running v h.aden h.convRunning

theorem exec_isr_afterConvert {s : State} (h : Armed s) (v : Byte) :
    exec .isr (afterConvert v s) = .next (afterSample v s) :=
  exec_isr_of_taken (afterConvert_adif v s) (h.afterConvert v).adie (h.afterConvert v).gie

/-- The program of samples runs to its end, each sample a tracker step. -/
theorem perform_samples (inputs : List Byte) {s : State} (hrun : CanRun s) (h : Armed s) :
    ∃ x, perform (inputs.flatMap sampleWords) s = .next (withConverter x (trackSamples inputs s)) ∧
      Armed (withConverter x (trackSamples inputs s)) := by
  induction inputs generalizing s with
  | nil => exact ⟨s, rfl, h⟩
  | cons v rest ih =>
    have hconvert := exec_convert_of_armed h v
    have hisr := exec_isr_afterConvert h v
    have hrun' := hrun.exec hconvert
    obtain ⟨x, hrest, harmed⟩ := ih (hrun'.exec hisr) (h.afterSample v)
    rw [afterSample_eq, trackSamples_withConverter] at hrest harmed
    refine ⟨x, ?_, harmed⟩
    rw [List.flatMap_cons, sampleWords, List.cons_append, List.singleton_append, perform_encode_cons hrun hconvert,
      perform_encode_cons hrun' hisr, afterSample_eq, hrest]
    rfl

/-- Each sample's conversion is followed by its interrupt (70_reset R270 item 1). -/
theorem oneIsrBetween_samples (inputs : List Byte) {since : Option Nat} (h : since = none ∨ since = some 1) :
    oneIsrBetween since (inputs.flatMap sampleWords) = true := by
  induction inputs generalizing since with
  | nil => rfl
  | cons v rest ih =>
    have hsince : (since == none || since == some 1) = true := by simpa using h
    simp only [List.flatMap_cons, sampleWords, List.cons_append, List.nil_append, oneIsrBetween, decode_encode,
      hsince, Bool.true_and]
    exact ih (.inr rfl)

/-- A sample leaves the block armed for the next one (70_reset R270 item 2). -/
theorem armedAtConverts_samples (inputs : List Byte) {s : State} (h : Armed s) :
    armedAtConverts (inputs.flatMap sampleWords) s = true := by
  induction inputs generalizing s with
  | nil => rfl
  | cons v rest ih =>
    simp only [List.flatMap_cons, sampleWords, List.cons_append, List.nil_append, armedAtConverts, decode_encode,
      performWord_ok (decode_encode _), exec_convert_of_armed h, exec_isr_afterConvert h, h.adie, h.gie,
      Bool.true_and]
    exact ih (h.afterSample v)

/-- Settles O34: each sample is converted and serviced at once, and leaves the block armed for the next one. -/
theorem sampledProgramTracksEverySample : Obligations.SampledProgramTracksEverySample := by
  intro inputs s hc hu haden hconv hfree hadie hgie
  have harmed : Armed s := ⟨haden, hconv, hfree, hadie, hgie⟩
  obtain ⟨x, hperform, hend⟩ := perform_samples inputs ⟨hc, hu⟩ harmed
  obtain ⟨hhp, hevents⟩ := trackSamples_frame inputs s
  exact ⟨⟨oneIsrBetween_samples inputs (.inl rfl), armedAtConverts_samples inputs harmed⟩,
    _, hperform, rfl, rfl, rfl, rfl, hend.adie, hend.gie, hhp, hevents⟩

/-! ## POLLX (30_encoding R95, 42_reducer R207) -/

/-- How many micro-steps a poll at the phase has left at most (42_reducer R207). -/
def microStepsLeft : HostPhase → Nat
  | .ready => 0
  | .pRead1 => 11
  | .pRead2 => 10
  | .pInprog => 1
  | .pCsEnter => 9
  | .pCsRead => 8
  | .pCsExit => 7
  | .pNow => 6
  | .pCmp => 5
  | .pSnap => 4
  | .pRmwRead => 3
  | .pRmwWrite => 2
  | .pFinDone => 1

/-- The interrupt mask after the poll: inside the critical section it is the saved one (42_reducer R197, R199). -/
def gieAfterPoll (s : State) : Bool :=
  match s.hp with
  | .pCsRead | .pCsExit => s.tmpG
  | _ => s.gie

/-- A micro-step goes on with fewer steps left and no event, or ends the poll with one. -/
theorem microStep_progress {s : State} (hp : s.hp ≠ .ready) :
    microStepsLeft (microStep s).hp < microStepsLeft s.hp ∧
      ((microStep s).hp ≠ .ready ∧ (microStep s).events = s.events ∨
        (microStep s).hp = .ready ∧ ∃ e, (microStep s).events = s.events ++ [e]) := by
  unfold microStep
  cases h : s.hp with
  | ready => exact absurd h hp
  | pRead1 => simp only [pRead1]; split <;> simp [microStepsLeft]
  | pRead2 => simp only [pRead2]; split <;> simp [microStepsLeft]
  | pInprog => simp only [pInprog]; split <;> simp [microStepsLeft, memWrite1]
  | pCmp => simp only [pCmp]; split <;> simp [microStepsLeft]
  | pSnap => simp only [pSnap]; split <;> simp [microStepsLeft, memWrite1]
  | pFinDone => simp [pFinDone, microStepsLeft]
  | pCsEnter | pCsRead | pCsExit | pNow | pRmwRead | pRmwWrite =>
    simp [pCsEnter, pCsRead, pCsExit, pNow, pRmwRead, pRmwWrite, memWrite1, microStepsLeft]

theorem gieAfterPoll_of_masked {s : State} (h : s.hp = .pCsRead ∨ s.hp = .pCsExit) :
    gieAfterPoll s = s.tmpG := by
  obtain h | h := h <;> simp [gieAfterPoll, h]

theorem gieAfterPoll_of_open {s : State} (hread : s.hp ≠ .pCsRead) (hexit : s.hp ≠ .pCsExit) :
    gieAfterPoll s = s.gie := by
  unfold gieAfterPoll
  split
  case h_1 h => exact absurd h hread
  case h_2 h => exact absurd h hexit
  case h_3 => rfl

theorem gieAfterPoll_pRead1 (s : State) : gieAfterPoll (pRead1 s) = s.gie := by
  by_cases hlt : s.processedClaps < s.clapCount
  · rw [pRead1_of_lt hlt]; rfl
  · rw [pRead1_of_not_lt hlt]; rfl

/-- No micro-step changes what the mask will be: the critical section saves it and restores it. -/
theorem gieAfterPoll_microStep (s : State) : gieAfterPoll (microStep s) = gieAfterPoll s := by
  unfold microStep
  cases h : s.hp with
  | ready => rfl
  | pCsRead => rw [gieAfterPoll_of_masked (.inl h)]; rfl
  | pCsExit => rw [gieAfterPoll_of_masked (.inr h)]; rfl
  | pRead1 => rw [gieAfterPoll_pRead1, gieAfterPoll_of_open (by simp [h]) (by simp [h])]
  | pRead2 =>
    rw [gieAfterPoll_of_open (s := s) (by simp [h]) (by simp [h])]
    by_cases h0 : 0 < s.clapCount
    · rw [pRead2_of_pos h0]; rfl
    · rw [pRead2_of_not_pos h0]; rfl
  | pInprog =>
    rw [gieAfterPoll_of_open (s := s) (by simp [h]) (by simp [h])]
    by_cases h127 : s.processedClaps + 1 = 127
    · rw [pInprog_of_eq h127]; rfl
    · rw [pInprog_of_ne h127]; rfl
  | pCmp =>
    rw [gieAfterPoll_of_open (s := s) (by simp [h]) (by simp [h])]
    by_cases hout : timedOut s.cfg s.tmpT s.tmpNow
    · rw [pCmp_of_timedOut hout]; rfl
    · rw [pCmp_of_not_timedOut hout]; rfl
  | pSnap =>
    rw [gieAfterPoll_of_open (s := s) (by simp [h]) (by simp [h])]
    by_cases hat : s.cfg.atomicFinish = true
    · rw [pSnap_of_atomic hat]; rfl
    · rw [pSnap_of_not_atomic hat]; rfl
  | pCsEnter | pNow | pRmwRead | pRmwWrite | pFinDone =>
    rw [gieAfterPoll_of_open (s := s) (by simp [h]) (by simp [h])]; rfl

theorem hstepsToReady_of_ready {s : State} (hr : s.hp = .ready) (fuel : Nat) : hstepsToReady fuel s = 0 := by
  cases fuel <;> simp [hstepsToReady, hostReady_iff.mpr hr]

theorem hstepsToReady_of_polling {s : State} (hp : s.hp ≠ .ready) (fuel : Nat) :
    hstepsToReady (fuel + 1) s = hstepsToReady fuel (microStep s) + 1 := by
  simp [hstepsToReady, hostReady_eq_false.mpr hp]

theorem hstepsToReady_le (fuel : Nat) (s : State) : hstepsToReady fuel s ≤ microStepsLeft s.hp := by
  induction fuel generalizing s with
  | zero => exact Nat.zero_le _
  | succ fuel ih =>
    by_cases hp : s.hp = .ready
    · rw [hstepsToReady_of_ready hp]; exact Nat.zero_le _
    · rw [hstepsToReady_of_polling hp]
      have hrest := ih (microStep s)
      have hless := (microStep_progress hp).1
      omega

/-- A poll in progress, given as many `HSTEP`s as it needs, ends with exactly one event. -/
theorem perform_hsteps_to_ready (fuel : Nat) {s : State} (h : CanRun s) (hp : s.hp ≠ .ready)
    (hfuel : microStepsLeft s.hp ≤ fuel) :
    ∃ t e, perform (hstepWords (hstepsToReady fuel s)) s = .next t ∧ t.hp = .ready ∧
      t.events = s.events ++ [e] ∧ gieAfterPoll t = gieAfterPoll s := by
  obtain ⟨hless, hmore⟩ := microStep_progress hp
  induction fuel generalizing s with
  | zero => omega
  | succ fuel ih =>
    have hstep := exec_hstep_of_polling hp
    have hmask := gieAfterPoll_microStep s
    rw [hstepsToReady_of_polling hp, hstepWords, List.replicate_succ, perform_encode_cons h hstep]
    obtain ⟨hp', hevents⟩ | ⟨hr, e, hevents⟩ := hmore
    · obtain ⟨hless', hmore'⟩ := microStep_progress hp'
      obtain ⟨t, e, hrest, hready, htrace, hgie⟩ := ih (h.exec hstep) hp' (by omega) hless' hmore'
      exact ⟨t, e, hrest, hready, hevents ▸ htrace, hgie.trans hmask⟩
    · rw [hstepsToReady_of_ready hr, List.replicate_zero]
      exact ⟨microStep s, e, rfl, hr, hevents, hmask⟩

/-- The first micro-step leaves a poll of at most ten more (42_reducer R191, R207). -/
theorem pRead1_progress (s : State) :
    (pRead1 s).hp ≠ .ready ∧ microStepsLeft (pRead1 s).hp ≤ 10 ∧ (pRead1 s).events = s.events := by
  by_cases hlt : s.processedClaps < s.clapCount
  · rw [pRead1_of_lt hlt]; simp [microStepsLeft]
  · rw [pRead1_of_not_lt hlt]; simp [microStepsLeft]

/-- Settles O49: every micro-step of the poll leaves fewer to come, and the last one alone emits an event. -/
theorem wholePollEmitsOneEvent : Obligations.WholePollEmitsOneEvent := by
  intro s hc hu hr
  have hrun : CanRun s := ⟨hc, hu⟩
  have hpoll := exec_poll_of_ready hr
  obtain ⟨hp, hleft, htrace⟩ := pRead1_progress s
  have hsteps := hstepsToReady_le 11 (pRead1 s)
  obtain ⟨t, e, hperform, hready, hevents, hgie⟩ :=
    perform_hsteps_to_ready 11 (hrun.exec hpoll) hp (by omega)
  have hwhole : wholePoll s = .next t := by
    rw [wholePoll, performPseudo, expandPseudo, pollxWords, perform_encode_cons hrun hpoll]
    exact hperform
  refine ⟨?_, t, e, hwhole, hready, htrace ▸ hevents, ?_⟩
  · simp only [expandPseudo, pollxWords, List.length_cons, List.length_replicate]
    omega
  · calc t.gie = gieAfterPoll t := by simp [gieAfterPoll, hready]
      _ = gieAfterPoll (pRead1 s) := hgie
      _ = s.gie := gieAfterPoll_pRead1 s

end Sys2Proof.Machine

/-! PROOFS of the family 40_sampler: the launch and its checks, the sample period, the driver's words, the interrupt
and its samples, real time. -/

namespace Sys2Proof.Machine

/-! ## The launch (60_exceptions R238) -/

/-- The outcome `o` behind the checks of the list, each of which refuses with its own code. -/
def refuseFirst (c : Config) (o : Result) : List ConfigError → Result
  | [] => o
  | e :: rest => if c.passes e = false then .refused (.invalidConfiguration e) else refuseFirst c o rest

theorem refuseFirst_eq_find (c : Config) (o : Result) (checks : List ConfigError) :
    refuseFirst c o checks =
      ((checks.find? fun e => !c.passes e).map fun e => Host.Outcome.refused (.invalidConfiguration e)).getD o := by
  induction checks with
  | nil => rfl
  | cons e rest ih => cases he : c.passes e <;> simp [refuseFirst, he, ih]

/-- A check whose failure is the proposition `P` (40_sampler R124). -/
theorem refuseFirst_cons {c : Config} {e : ConfigError} {P : Prop} [Decidable P] (h : c.passes e = false ↔ P)
    (o : Result) (rest : List ConfigError) :
    refuseFirst c o (e :: rest) =
      if P then .refused (.invalidConfiguration e) else refuseFirst c o rest := by
  simp only [refuseFirst, h]

theorem refuseFirst_nil (c : Config) (o : Result) : refuseFirst c o [] = o := rfl

/-- The launch is the reset state behind the eight checks in the order of their table. -/
theorem launch_eq_refuseFirst (c : Config) (ms : Dword) (words : List Word) :
    launch c ms words = refuseFirst c (.next { State.resetWith c ms with schedule := words }) configChecks := by
  rw [refuseFirst_eq_find]
  unfold launch Config.firstError
  cases configChecks.find? fun e => !c.passes e <;> rfl

theorem launch_next_iff {c : Config} {ms : Dword} {words : List Word} :
    (∃ s, launch c ms words = .next s) ↔ ValidConfig c := by
  rw [← firstError_eq_none_iff]
  unfold launch
  cases c.firstError <;> simp

/-! ## The checks as arithmetic (40_sampler R124) -/

theorem cSample_eq_zero_iff {c : Config} : c.cSample = 0 ↔ c.adcPrescaler = 0 := by
  unfold Config.cSample
  omega

theorem passes_debouncePack_eq_false_iff {c : Config} :
    c.passes .E_DEBOUNCE_PACK = false ↔ c.adcPrescaler ≠ 0 ∧ ¬ c.debHi < c.maxT.toNat := by
  rw [Config.passes, Bool.or_eq_false_iff, beq_eq_false_iff_ne, decide_eq_false_iff_not, Ne,
    cSample_eq_zero_iff]

theorem passes_timeoutRange_eq_false_iff {c : Config} :
    c.passes .E_TIMEOUT_RANGE = false ↔
      c.adcPrescaler ≠ 0 ∧ ¬(1 ≤ c.peakTimeout ∧ c.peakTimeout ≤ 255) := by
  rw [Config.passes, Bool.or_eq_false_iff, beq_eq_false_iff_ne, ← Bool.decide_and, decide_eq_false_iff_not, Ne,
    cSample_eq_zero_iff]

theorem passes_clock_eq_false_iff {c : Config} :
    c.passes .E_CLOCK = false ↔
      ¬(c.adcPrescaler ∈ divisions ∧ (c.prescaler = .selected → 125000 * c.adcPrescaler = c.fCpu)) := by
  rw [← clockOk_iff, Bool.not_eq_true, Config.passes]

theorem referenceOf_isSome_iff : ∀ code : BitVec 2, (referenceOf code).isSome = true ↔ code ≠ 0b10 := by decide

theorem channelOf_isSome_iff : ∀ code : BitVec 4,
    (channelOf code).isSome = true ↔ code.toNat ≤ 0b1000 ∨ code = 0b1110 ∨ code = 0b1111 := by decide

theorem passes_ref_eq_false_iff {c : Config} : c.passes .E_REF = false ↔ c.adcRef = 0b10 := by
  rw [Config.passes, ← Bool.not_eq_true, referenceOf_isSome_iff, not_not]

theorem passes_channel_eq_false_iff {c : Config} :
    c.passes .E_CHANNEL = false ↔
      ¬(c.adcChannel.toNat ≤ 0b1000 ∨ c.adcChannel = 0b1110 ∨ c.adcChannel = 0b1111) := by
  rw [Config.passes, ← Bool.not_eq_true, channelOf_isSome_iff]

/-- Settles O10: the launch accepts the valid configurations, and its chain of checks is walked row by row. -/
theorem launchAcceptsExactlyValidConfigurations : Obligations.LaunchAcceptsExactlyValidConfigurations := by
  intro c ms program
  constructor
  · rw [launch_next_iff, validConfig_iff, clockOk_iff, referenceOf_isSome_iff, channelOf_isSome_iff,
      ← and_assoc (a := 1 ≤ c.peakTimeout)]
    rfl
  · rw [launch_eq_refuseFirst, configChecks,
      refuseFirst_cons (e := .E_THRESH_ORDER) decide_eq_false_iff_not,
      refuseFirst_cons (e := .E_DELTA_RANGE) decide_eq_false_iff_not,
      refuseFirst_cons (e := .E_RATE) decide_eq_false_iff_not,
      refuseFirst_cons passes_debouncePack_eq_false_iff, refuseFirst_cons passes_timeoutRange_eq_false_iff,
      refuseFirst_cons passes_clock_eq_false_iff, refuseFirst_cons passes_ref_eq_false_iff,
      refuseFirst_cons passes_channel_eq_false_iff, refuseFirst_nil]
    rfl

/-! ## Refusals of a running block -/

theorem whenEnabled_refused {b : Bool} {o : Result} {r : Refusal} (h : whenEnabled b o = .refused r) :
    r = .notEnabled ∨ o = .refused r := by
  cases b with
  | false => exact .inl (Host.Outcome.refused.inj h).symm
  | true => exact .inr h

/-- An operation refuses only where its enabling condition fails (30_encoding R90). -/
theorem exec_refused {i : Instr} {s : State} {r : Refusal} (h : exec i s = .refused r) : r = .notEnabled := by
  cases i with
  | advance k => exact nomatch h
  | init | enable =>
    refine (whenEnabled_refused h).resolve_right ?_
    split <;> exact nofun
  | disable | poll | sei | cli | hstep | convert v | isr => exact (whenEnabled_refused h).resolve_right nofun

/-- Only the check in front of a step answers that a configuration is invalid, and it passes a valid one. -/
theorem step_ne_invalidConfiguration {s : State} (hc : ValidConfig s.cfg) (e : ConfigError) :
    step s ≠ .refused (.invalidConfiguration e) := by
  intro h
  cases hb : blocked s with
  | some o =>
    rw [step_of_blocked hb] at h
    subst h
    obtain ⟨r, -, ho⟩ | ⟨-, ho⟩ | ⟨e', he, -⟩ := blocked_eq_some hb
    · exact nomatch ho
    · exact nomatch ho
    · exact nomatch (firstError_eq_none_iff.mpr hc).symm.trans he
  | none =>
    obtain ⟨-, hu⟩ := blocked_eq_none_iff.mp hb
    cases hs : s.schedule with
    | nil => simp [step, hb, fetch, hs] at h
    | cons w rest =>
      rw [step_eq_performWord hc hu hs] at h
      cases hd : decode w with
      | error r => rw [performWord_error hd] at h; exact nomatch h
      | ok i => rw [performWord_ok hd] at h; exact nomatch exec_refused h

/-- Settles O11: no operation writes the configuration, and the check in front of a step passes a valid one. -/
theorem parametersNeverChange : Obligations.ParametersNeverChange := by
  refine ⟨fun s s' h => ?_, fun s e hc => step_ne_invalidConfiguration hc e⟩
  obtain ⟨-, -, w, rest, i, -, -, hexec⟩ := step_next h
  exact (exec_frame hexec).1

/-! ## The sample period -/

/-- DEB_SAMPLES counts milliseconds (40_sampler R123). -/
theorem debSamples_eq (c : Config) : c.debSamples = c.debounceMs * c.fCpu / (c.cSample * 1000) := by
  calc c.debounceMs * 1000 * c.fCpu / (c.cSample * 1000000)
      = c.debounceMs * c.fCpu * 1000 / (c.cSample * 1000 * 1000) := by
        rw [Nat.mul_right_comm, Nat.mul_assoc c.cSample]
    _ = c.debounceMs * c.fCpu / (c.cSample * 1000) := Nat.mul_div_mul_right _ _ (by decide)

/-- Settles O24: DEB_SAMPLES is a quotient, rounded down. -/
theorem debounceRoundsDown : Obligations.DebounceRoundsDown := by
  intro c hc
  have hpos : 0 < c.cSample * 1000 := Nat.mul_pos (cSample_pos hc) (by decide)
  rw [Nat.mul_assoc, Nat.mul_assoc, debSamples_eq]
  exact ⟨Nat.div_mul_le_self _ _, (Nat.lt_mul_div_succ _ hpos).trans_eq (Nat.mul_comm _ _)⟩

/-- The clocks that R125's selection supports. -/
theorem clockOk_selected_iff {c : Config} (h : c.prescaler = .selected) :
    c.clockOk = true ↔ c.fCpu ∈ [250000, 500000, 1000000, 2000000, 4000000, 8000000, 16000000] := by
  have hp : c.adcPrescaler = c.fCpu / 125000 := by simp only [Config.adcPrescaler, h]
  rw [clockOk_iff, hp]
  simp only [divisions, h, List.mem_cons, List.not_mem_nil, or_false, true_implies]
  omega

/-- Under the selection the ADC clock is 125 kHz (40_sampler R125). -/
theorem fCpu_of_clockOk {c : Config} (h : c.prescaler = .selected) (hok : c.clockOk = true) :
    c.fCpu = 125000 * c.adcPrescaler :=
  ((clockOk_iff.mp hok).2 h).symm

/-- Settles O22: the divider of a selected clock that passes is exact, and positive. -/
theorem selectedClockSamplesAt104us : Obligations.SelectedClockSamplesAt104us := by
  refine fun c h => ⟨clockOk_selected_iff h, fun hok => ?_, fun h16 => ?_⟩
  · have hclock := fCpu_of_clockOk h hok
    have hpos := adcPrescaler_pos_of_clockOk hok
    refine ⟨?_, decide_eq_true ?_⟩
    · unfold Config.cSample; omega
    · unfold Config.cSample; omega
  · have hp : c.adcPrescaler = 128 := by simp only [Config.adcPrescaler, h, h16]
    simp only [Config.cSample, hp, and_self]

/-! ## INIT (40_sampler R110–R112) -/

theorem exec_init_fault {s : State} (hr : s.hp = .ready) (ha : s.adie = true) :
    exec .init s = .fault .initWhileEnabled := by
  simp [exec, execInit, hostReady_iff.mpr hr, ha]

/-- The byte that `INIT` leaves in ADCSRA beside ADSC: the write's ADIF bit is 0, so ADIF stays. -/
theorem initAdcsra_eq : ∀ (adif : Bool) (p : BitVec 3),
    setBit (setBit (packAdcsra true true true false false p) 6 false) 4
      (adif && !(packAdcsra true true true false false p)[4]) = (if adif then 0xB0 else 0xA0) ||| p.setWidth 8 := by
  decide

theorem initAdmux_eq : ∀ (refs : BitVec 2) (mux : BitVec 4),
    (packAdmux refs true mux &&& 0xEF : Byte) = refs ++ (1#1 ++ (0#1 ++ mux)) := by decide

theorem initAdcsrb_eq : ∀ b : Byte, (b &&& 0x40 ||| 0) &&& 0x47 = b &&& 0x40 := by decide

/-- ADIF and ADIE in that byte, and what a read of the register adds to it. -/
theorem initAdcsra_flags : ∀ (adif : Bool) (p : BitVec 3),
    let v : Byte := (if adif then 0xB0 else 0xA0) ||| p.setWidth 8
    v[4] = adif ∧ v[3] = false ∧ setBit v 6 true = (if adif then 0xF0 else 0xE0) ||| p.setWidth 8 := by
  decide

/-- The state that `INIT` leaves. -/
def afterInit (s : State) : State :=
  { s with
    runningMax := s.cfg.maxT, countdown := 0, clapCount := 0, lastClap := 0, processedClaps := 0
    initialized := true, convRunning := true
    admux := s.cfg.adcRef ++ (1#1 ++ (0#1 ++ s.cfg.adcChannel))
    adcsrb := s.adcsrb &&& 0x40
    adcsra := (if s.adif then 0xB0 else 0xA0) ||| s.cfg.psCode.setWidth 8 }

theorem initRegisters_initCells (s : State) : initRegisters (initCells s) = afterInit s := by
  obtain ⟨hen, hsc, -⟩ := initAdcsra_bits s.cfg.psCode
  have hadif : (initCells s).adif = s.adif := rfl
  rw [initRegisters_eq]
  simp only [initCells_cfg, initCells_adcsrb, hadif, initAdcsra_eq, initAdmux_eq, initAdcsrb_eq, hen, hsc,
    Bool.or_true, Bool.and_true]
  rfl

theorem afterInit_flags (s : State) : (afterInit s).adif = s.adif ∧ (afterInit s).adie = false := by
  obtain ⟨hadif, hadie, -⟩ := initAdcsra_flags s.adif s.cfg.psCode
  exact ⟨hadif, hadie⟩

/-- Repeating the writes gives the same register values. -/
theorem afterInit_afterInit (s : State) : afterInit (afterInit s) = afterInit s := by
  obtain ⟨hadif, -⟩ := afterInit_flags s
  have hadcsrb : s.adcsrb &&& 0x40 &&& 0x40 = s.adcsrb &&& 0x40 := by rw [BitVec.and_assoc, BitVec.and_self]
  simp only [afterInit] at hadif ⊢
  simp only [hadif, hadcsrb]

/-- Settles O15: `INIT` answers `afterInit`, which leaves ADIE 0 and the host at Ready for the next one. -/
theorem initConfiguresBlock : Obligations.InitConfiguresBlock := by
  refine ⟨decode_encode .init, fun s => ⟨fun hp => exec_refused_of_polling hp (by simp), exec_init_fault,
    fun hr ha => ?_⟩⟩
  obtain ⟨-, hadie⟩ := afterInit_flags s
  have hagain : exec .init (afterInit s) = .next (afterInit (afterInit s)) := by
    rw [exec_init_of_ready (s := afterInit s) hr hadie, initRegisters_initCells]
  refine ⟨afterInit s, ?_, rfl, ?_, ?_⟩
  · rw [exec_init_of_ready hr ha, initRegisters_initCells]
  · exact (initAdcsra_flags s.adif s.cfg.psCode).2.2
  · rw [hagain, afterInit_afterInit]

/-! ## ENABLE and DISABLE (40_sampler R113, R114) -/

theorem exec_enable_fault {s : State} (hr : s.hp = .ready) (hi : s.initialized = false) :
    exec .enable s = .fault .enableBeforeInit := by
  simp [exec, execEnable, hostReady_iff.mpr hr, hi]

theorem exec_disable_of_ready {s : State} (hr : s.hp = .ready) :
    exec .disable s = .next (countDraw (setInterruptEnable false (Config.clearDraw s.draws) s)) := by
  simp [exec, execDisable, hostReady_iff.mpr hr]

theorem countDraw_setInterruptEnable_true (d : Bool) (s : State) :
    countDraw (setInterruptEnable true d s) =
      { s with
        adcsra := if d then (s.adcsra ||| 0x08) &&& 0xEF else s.adcsra ||| 0x08, draws := s.draws + 1 } := by
  rw [setInterruptEnable_eq, setBit_three_true, setBit_four_false, countDraw]

theorem countDraw_setInterruptEnable_false (d : Bool) (s : State) :
    countDraw (setInterruptEnable false d s) =
      { s with
        adcsra := if d then s.adcsra &&& 0xF7 &&& 0xEF else s.adcsra &&& 0xF7, draws := s.draws + 1 } := by
  rw [setInterruptEnable_eq, setBit_three_false, setBit_four_false, countDraw]

/-- Settles O16: `ENABLE` writes ADIE and, by its draw, ADIF; the interrupt it leaves pending is enabled. -/
theorem enableSetsInterruptEnable : Obligations.EnableSetsInterruptEnable := by
  refine ⟨decode_encode .enable, fun s => ⟨fun hp => exec_refused_of_polling hp (by simp), exec_enable_fault,
    fun hr hi => ⟨Config.clearDraw s.draws, _, exec_enable_of_ready hr hi,
      countDraw_setInterruptEnable_true _ s, fun hadif hgie => ?_⟩⟩⟩
  obtain ⟨hadie, -, -⟩ := setInterruptEnable_sampler (Config.clearDraw s.draws) s
  exact ⟨_, exec_isr_of_taken hadif hadie hgie⟩

/-- Settles O17: `DISABLE` writes ADIE and, by its draw, ADIF. -/
theorem disableClearsInterruptEnable : Obligations.DisableClearsInterruptEnable := by
  refine ⟨decode_encode .disable, fun s => ⟨fun hp => exec_refused_of_polling hp (by simp),
    fun hr => ⟨Config.clearDraw s.draws, ?_⟩⟩⟩
  rw [exec_disable_of_ready hr, countDraw_setInterruptEnable_false]

/-! ## CONVERT (40_sampler R117, R118) -/

theorem exec_convert_refused {s : State} (v : Byte) (h : ¬(s.aden = true ∧ s.convRunning = true)) :
    exec (.convert v) s = .refused .notEnabled := by
  have hoff : converterOn s = false := Bool.eq_false_iff.mpr (mt converterOn_iff.mp h)
  simp [exec, execConvert, hoff]

/-- The free-running trigger is the zero of ADTS (30_encoding R85). -/
theorem triggerOf_freeRunning : ∀ b : Byte,
    (triggerOf (b.extractLsb' 0 3) == .freeRunning) = decide (b &&& 0x07 = 0) := by decide

theorem freeRunning_eq (s : State) : s.freeRunning = (s.adate && decide (s.adcsrb &&& 0x07 = 0)) := by
  rw [State.freeRunning, State.adts, triggerOf_freeRunning]

/-- Settles O18: an enabled `CONVERT` answers the completed conversion, its low bits the draw. -/
theorem convertLatchesSample : Obligations.ConvertLatchesSample := by
  refine fun v => ⟨decode_encode (.convert v), fun s => ⟨exec_convert_refused v,
    fun haden hrun => ⟨Config.adclDraw s.draws, ?_⟩⟩⟩
  rw [exec_convert_of_running v haden hrun, completeConversion, setAdif, setBit_four_true, freeRunning_eq, hrun,
    Bool.and_true, countDraw]

/-! ## ADVANCE (40_sampler R122) -/

/-- Settles O20: `ADVANCE` alone owns the clock, and adds its operand mod 2^32. -/
theorem advanceAddsMilliseconds : Obligations.AdvanceAddsMilliseconds := by
  refine ⟨fun s s' h => ?_, fun k => ⟨decode_encode (.advance k), fun s => ⟨?_, rfl⟩⟩⟩
  · obtain ⟨-, -, w, rest, i, hs, hd, hexec⟩ := step_next h
    by_cases hi : ∃ k, i = .advance k
    · obtain ⟨k, rfl⟩ := hi
      obtain rfl := execAdvance_next hexec
      exact .inr ⟨k, w, rest, hs, hd, rfl⟩
    · obtain ⟨-, -, -, -, -, -, -, -, hclock, -⟩ := onlyOwnersWrite i _ s' hexec
      exact .inl (hclock (not_exists.mp hi))
  · have hsum : s.envMs + k.setWidth 32 = BitVec.ofNat 32 ((s.envMs.toNat + k.toNat) % 2 ^ 32) := by
      apply BitVec.eq_of_toNat_eq
      simp
    rw [exec_advance, hsum]

/-! ## The interrupt refused, and conversions beside it -/

theorem exec_isr_refused {s : State} (h : ¬(s.adif = true ∧ s.adie = true ∧ s.gie = true)) :
    exec .isr s = .refused .notEnabled := by
  have htaken : interruptTaken s = false := Bool.eq_false_iff.mpr (mt interruptTaken_iff.mp h)
  simp [exec, execIsr, htaken]

theorem exec_isr_of_disabled {s : State} (h : s.adie = false) : exec .isr s = .refused .notEnabled :=
  exec_isr_refused (by simp [h])

theorem exec_isr_of_not_pending {s : State} (h : s.adif = false) : exec .isr s = .refused .notEnabled :=
  exec_isr_refused (by simp [h])

theorem afterConvert_adie (v : Byte) (s : State) : (afterConvert v s).adie = s.adie := setAdif_adie true _

/-- Settles O21: without ADIE the conversion is latched, and nothing runs on it. -/
theorem disabledInterruptHidesSamples : Obligations.DisabledInterruptHidesSamples := by
  intro s hadie
  refine ⟨exec_isr_of_disabled hadie, fun v haden hrun => ?_⟩
  have hadie' : (afterConvert v s).adie = false := (afterConvert_adie v s).trans hadie
  exact ⟨afterConvert v s, exec_convert_of_running v haden hrun, afterConvert_adif v s, hadie', rfl, rfl, rfl, rfl,
    exec_isr_of_disabled hadie'⟩

theorem exec_cli_of_ready {s : State} (hr : s.hp = .ready) : exec .cli s = .next { s with gie := false } := by
  simp [exec, execCli, hostReady_iff.mpr hr]

/-- Settles O39: the mask refuses the interrupt, and the converter does not read it. -/
theorem cliMasksInterrupt : Obligations.CliMasksInterrupt := by
  refine ⟨decode_encode .cli, fun s => ⟨fun hp => exec_refused_of_polling hp (by simp), fun hr =>
    ⟨exec_cli_of_ready hr, exec_isr_of_masked rfl, fun haden hrun v => ?_⟩⟩⟩
  exact ⟨_, exec_convert_of_running (s := { s with gie := false }) v haden hrun, afterConvert_adif v _, rfl⟩

/-! ## The interrupt (60_exceptions R232) -/

/-- The state that `ISR` leaves: the tracker step of ADCH, and ADIF cleared. -/
def afterIsr (s : State) : State := { trackerStep s.adch s with adcsra := s.adcsra &&& 0xEF }

/-- The mask is entered and left again; the tracker step does not read it. -/
theorem interruptReturn_serviceSample (s : State) (hgie : s.gie = true) :
    interruptReturn (serviceSample (interruptEnter s)) = afterIsr s := by
  have henter : interruptEnter s = withConverter (interruptEnter s) s := rfl
  rw [serviceSample_eq, interruptEnter_adch, henter, trackerStep_withConverter, afterIsr, trackerStep_frame]
  simp only [interruptReturn, withConverter, interruptEnter, setAdif, setBit_four_false, hgie]

theorem exec_isr_of_pending {s : State} (hadif : s.adif = true) (hadie : s.adie = true) (hgie : s.gie = true) :
    exec .isr s = .next (afterIsr s) := by
  rw [exec_isr_of_taken hadif hadie hgie, interruptReturn_serviceSample s hgie]

/-- `ISR` writes ADCSRA and the tracker's four cells. -/
theorem afterIsr_frame (s : State) :
    ∃ max countdown claps last, afterIsr s = { s with
      adcsra := s.adcsra &&& 0xEF, runningMax := max, countdown := countdown, clapCount := claps
      lastClap := last } := by
  rw [afterIsr, trackerStep_frame]
  exact ⟨_, _, _, _, rfl⟩

theorem afterIsr_flags (s : State) : (afterIsr s).adif = false ∧ (afterIsr s).adie = s.adie := by
  have hregister : (afterIsr s).adcsra = (setAdif false s).adcsra := (setBit_four_false s.adcsra).symm
  have hadif : (afterIsr s).adif = (setAdif false s).adif := by rw [State.adif, State.adif, hregister]
  have hadie : (afterIsr s).adie = (setAdif false s).adie := by rw [State.adie, State.adie, hregister]
  exact ⟨hadif.trans (setAdif_adif false s), hadie.trans (setAdif_adie false s)⟩

theorem exec_isr_afterIsr (s : State) : exec .isr (afterIsr s) = .refused .notEnabled :=
  exec_isr_of_not_pending (afterIsr_flags s).1

/-- `ISR` leaves `gie` at the 1 that it needs. -/
theorem afterIsr_gie {s : State} (hgie : s.gie = true) : (afterIsr s).gie = true := by
  rw [afterIsr, trackerStep_frame]
  exact hgie

/-- A conversion makes the interrupt pending, and it is taken where it is enabled and unmasked. -/
theorem exec_isr_after_convert {s t : State} {v : Byte} (h : exec (.convert v) s = .next t)
    (hadie : s.adie = true) (hgie : s.gie = true) : ∃ u, exec .isr t = .next u := by
  obtain ⟨-, -, rfl⟩ := execConvert_next h
  exact ⟨_, exec_isr_of_taken (afterConvert_adif v s) ((afterConvert_adie v s).trans hadie) hgie⟩

/-- Settles O26: the interrupt answers `afterIsr`, whose fields are those of the tracker step. -/
theorem isrRunsTrackerAtomically : Obligations.IsrRunsTrackerAtomically := by
  intro s hadif hadie hgie
  have hisr := exec_isr_of_pending hadif hadie hgie
  refine ⟨hisr, fun t ht => ?_⟩
  obtain rfl : afterIsr s = t := Host.Outcome.next.inj (hisr.symm.trans ht)
  obtain ⟨hcleared, hadie'⟩ := afterIsr_flags s
  have hgie' := afterIsr_gie hgie
  have hrefused := exec_isr_afterIsr s
  have hnext : ∀ v u, exec (.convert v) (afterIsr s) = .next u → ∃ w, exec .isr u = .next w :=
    fun v u hu => exec_isr_after_convert hu (hadie'.trans hadie) hgie'
  obtain ⟨max, countdown, claps, last, hframe⟩ := afterIsr_frame s
  rw [hframe] at hcleared hgie' hrefused hnext ⊢
  exact ⟨hcleared, hgie', rfl, rfl, rfl, rfl, rfl, rfl, rfl, rfl, rfl, rfl, rfl, rfl, rfl, rfl, rfl, rfl, rfl, rfl,
    rfl, rfl, rfl, rfl, hrefused, hnext⟩

/-- Settles O19: the second conversion overwrites the first, and the one interrupt clears the one flag. -/
theorem overrunServicesLatestSample : Obligations.OverrunServicesLatestSample := by
  intro s v1 v2 haden hrun hfree hadie hgie
  have harmed : Armed s := ⟨haden, hrun, hfree, hadie, hgie⟩
  have harmed1 := harmed.afterConvert v1
  have hisr := exec_isr_afterConvert harmed1 v2
  have hcleared : exec .isr (afterSample v2 (afterConvert v1 s)) = .refused .notEnabled := by
    rw [afterSample, interruptReturn_serviceSample _ (harmed1.afterConvert v2).gie]
    exact exec_isr_afterIsr _
  obtain ⟨x, htracked⟩ : ∃ x, afterSample v2 (afterConvert v1 s) = withConverter x (trackerStep v2 s) := by
    have hlatched : afterConvert v1 s = withConverter (afterConvert v1 s) s := rfl
    rw [afterSample_eq, hlatched, trackerStep_withConverter]
    exact ⟨_, rfl⟩
  rw [htracked] at hisr hcleared
  exact ⟨_, _, _, exec_convert_of_armed harmed v1, exec_convert_of_armed harmed1 v2, rfl, afterConvert_adif v2 _,
    hisr, rfl, rfl, rfl, rfl, hcleared⟩

/-! ## Real time (70_reset R279) -/

/-- The clock after a program is advanced by the operands of its `ADVANCE` words. -/
theorem perform_envMs {words : List Word} {s t : State} (h : perform words s = .next t) :
    t.envMs = s.envMs + BitVec.ofNat 32 (advancedMs words) := by
  induction words generalizing s with
  | nil => obtain rfl := Host.Outcome.next.inj h; simp [advancedMs]
  | cons w rest ih =>
    obtain ⟨-, -, i, m, hd, hm, hrest⟩ := perform_cons_next h
    calc t.envMs = m.envMs + BitVec.ofNat 32 (advancedMs rest) := ih hrest
      _ = s.envMs + BitVec.ofNat 32 (millisOf w) + BitVec.ofNat 32 (advancedMs rest) := by rw [exec_envMs hd hm]
      _ = s.envMs + BitVec.ofNat 32 (advancedMs (w :: rest)) := by
        rw [BitVec.add_assoc, ← BitVec.ofNat_add, advancedMs, advancedMs, List.map_cons, List.sum_cons]

theorem advancedMs_timedWords_cons (tw : TimedWord) (rest : List TimedWord) :
    advancedMs (timedWords (tw :: rest)) = millisOf tw.word + advancedMs (timedWords rest) := rfl

/-- A word but an `ADVANCE` stands where the `ADVANCE` words before it add up to the elapsed milliseconds. -/
theorem elapsedMs_of_clockOnTime {c : Config} {start seen : Nat} {before after : List TimedWord} {tw : TimedWord}
    (h : clockOnTime c start seen (before ++ tw :: after) = true) (htw : isAdvance tw.word = false) :
    seen + advancedMs (timedWords before) = elapsedMs c start tw.cycle := by
  induction before generalizing seen with
  | nil =>
    simp only [List.nil_append, clockOnTime, htw, Bool.false_or, Bool.and_eq_true, beq_iff_eq] at h
    exact h.1
  | cons first rest ih =>
    simp only [List.cons_append, clockOnTime, Bool.and_eq_true] at h
    rw [advancedMs_timedWords_cons, ← Nat.add_assoc]
    exact ih h.2

/-- Whether the word is a `CONVERT`. -/
def isConvert (w : Word) : Bool :=
  match decode w with
  | .ok (.convert _) => true
  | _ => false

theorem isConvert_iff {w : Word} : isConvert w = true ↔ ∃ v, decode w = .ok (.convert v) := by
  unfold isConvert
  split <;> simp_all

theorem convertsOnTime_cons_convert {c : Config} {last : Option Nat} {tw : TimedWord} {rest : List TimedWord}
    (h : isConvert tw.word = true) :
    convertsOnTime c last (tw :: rest) = true ↔
      (∀ previous, last = some previous → previous + c.cSample = tw.cycle) ∧
        convertsOnTime c (some tw.cycle) rest = true := by
  obtain ⟨v, hv⟩ := isConvert_iff.mp h
  simp [convertsOnTime, hv, Option.all_eq_true]

theorem convertsOnTime_cons_other {c : Config} {last : Option Nat} {tw : TimedWord} {rest : List TimedWord}
    (h : ¬ isConvert tw.word = true) :
    convertsOnTime c last (tw :: rest) = convertsOnTime c last rest := by
  rw [isConvert_iff] at h
  rw [convertsOnTime]
  split
  case h_1 v hv => exact absurd ⟨v, hv⟩ h
  case h_2 => rfl

/-- The `CONVERT` words behind one at the cycle `previous` take a sample period each. -/
theorem cycles_of_later_converts {c : Config} {program : List TimedWord} {previous last : Nat}
    (h : convertsOnTime c (some previous) program = true) (hprev : previous ≤ last)
    (hlast : ∀ tw ∈ program, tw.cycle ≤ last) :
    previous + (timedWords program).countP isConvert * c.cSample ≤ last := by
  induction program generalizing previous with
  | nil => simpa [timedWords] using hprev
  | cons tw rest ih =>
    obtain ⟨htw, hrest⟩ := List.forall_mem_cons.mp hlast
    by_cases hc : isConvert tw.word = true
    · obtain ⟨hperiod, hon⟩ := (convertsOnTime_cons_convert hc).mp h
      have hlater := ih hon htw hrest
      have hcycle := hperiod previous rfl
      rw [timedWords, List.map_cons, List.countP_cons_of_pos hc, Nat.succ_mul]
      simp only [timedWords] at hlater
      omega
    · rw [convertsOnTime_cons_other hc] at h
      rw [timedWords, List.map_cons, List.countP_cons_of_neg hc]
      exact ih h hprev hrest

/-- The `CONVERT` words between two cycles take a sample period each, but for the first. -/
theorem cycles_of_converts {c : Config} {program : List TimedWord} {first last : Nat}
    (h : convertsOnTime c none program = true) (hfirst : ∀ tw ∈ program, first ≤ tw.cycle)
    (hlast : ∀ tw ∈ program, tw.cycle ≤ last) :
    ((timedWords program).countP isConvert - 1) * c.cSample ≤ last - first := by
  induction program with
  | nil => simp [timedWords]
  | cons tw rest ih =>
    obtain ⟨hlow, hlows⟩ := List.forall_mem_cons.mp hfirst
    obtain ⟨hhigh, hhighs⟩ := List.forall_mem_cons.mp hlast
    by_cases hc : isConvert tw.word = true
    · have hlater := cycles_of_later_converts ((convertsOnTime_cons_convert hc).mp h).2 hhigh hhighs
      rw [timedWords, List.map_cons, List.countP_cons_of_pos hc, Nat.add_sub_cancel]
      simp only [timedWords] at hlater
      omega
    · rw [convertsOnTime_cons_other hc] at h
      rw [timedWords, List.map_cons, List.countP_cons_of_neg hc]
      exact ih h hlows hhighs

theorem startCycle_le {program : List TimedWord} (h : program.Pairwise fun a b => a.cycle ≤ b.cycle) :
    ∀ tw ∈ program, startCycle program ≤ tw.cycle := by
  cases program with
  | nil => simp
  | cons first rest => exact List.forall_mem_cons.mpr ⟨le_rfl, (List.pairwise_cons.mp h).1⟩

theorem le_endCycle {program : List TimedWord} (h : program.Pairwise fun a b => a.cycle ≤ b.cycle) :
    ∀ tw ∈ program, tw.cycle ≤ endCycle program := by
  induction program using List.reverseRecOn with
  | nil => simp
  | append_singleton init last _ =>
    have hend : endCycle (init ++ [last]) = last.cycle := by simp [endCycle]
    intro tw htw
    rw [hend]
    obtain hinit | hlast := List.mem_append.mp htw
    · exact (List.pairwise_append.mp h).2.2 tw hinit last (List.mem_singleton_self last)
    · rw [List.mem_singleton.mp hlast]

/-- Settles O37: the clock reads the sum of the `ADVANCE` words before it, which RealTime ties to the stamps; the
sample periods are counted along the program. -/
theorem realTimeClockReadsElapsedTime : Obligations.RealTimeClockReadsElapsedTime := by
  intro s program hrt
  refine ⟨fun before after tw m hprogram htw hm => ?_, fun t ht => ?_, ?_⟩
  · have hclock := hrt.clock
    rw [hprogram] at hclock ⊢
    rw [perform_envMs hm, ← elapsedMs_of_clockOnTime hclock htw, Nat.zero_add]
  · rw [perform_envMs ht, hrt.total]
  · exact cycles_of_converts hrt.conversions (startCycle_le hrt.ordered) (le_endCycle hrt.ordered)

end Sys2Proof.Machine

/-! PROOFS of the family 41_tracker: reset and INIT, the branches of the tracker step, the interrupt in each mode, lists
of samples in debounce, after a peak and above MIN_T, and quiet programs. -/

namespace Sys2Proof.Machine

/-! ## The branches of the tracker step, said forwards (41_tracker R150) -/

section Branches
variable {s : State} {input : Byte}

theorem trackerStep_of_debounce (h : s.runningMax.toNat < s.cfg.maxT.toNat) : trackerStep input s = debounceStep s :=
  if_pos h

theorem trackerStep_of_peak (hge : s.cfg.maxT.toNat ≤ s.runningMax.toNat) (hle : s.runningMax.toNat ≤ input.toNat) :
    trackerStep input s = refreshPeak input s :=
  (if_neg (Nat.not_lt.mpr hge)).trans (if_pos hle)

/-- A sample below `running_max`, outside debounce, reaches the branches that read `countdown`. -/
theorem trackerStep_of_lower (hge : s.cfg.maxT.toNat ≤ s.runningMax.toNat) (hlt : input.toNat < s.runningMax.toNat) :
    trackerStep input s = if s.countdown = 0 then s else if detects input s then detectClap s else decayPeak s :=
  (if_neg (Nat.not_lt.mpr hge)).trans (if_neg (Nat.not_le.mpr hlt))

theorem trackerStep_of_idle (hge : s.cfg.maxT.toNat ≤ s.runningMax.toNat) (hlt : input.toNat < s.runningMax.toNat)
    (hcd : s.countdown = 0) : trackerStep input s = s :=
  (trackerStep_of_lower hge hlt).trans (if_pos hcd)

theorem trackerStep_of_clap (hge : s.cfg.maxT.toNat ≤ s.runningMax.toNat) (hlt : input.toNat < s.runningMax.toNat)
    (hcd : s.countdown ≠ 0) (hd : detects input s = true) : trackerStep input s = detectClap s := by
  rw [trackerStep_of_lower hge hlt, if_neg hcd, if_pos hd]

theorem trackerStep_of_decay (hge : s.cfg.maxT.toNat ≤ s.runningMax.toNat) (hlt : input.toNat < s.runningMax.toNat)
    (hcd : s.countdown ≠ 0) (hd : detects input s = false) : trackerStep input s = decayPeak s := by
  rw [trackerStep_of_lower hge hlt, if_neg hcd, hd, if_neg Bool.false_ne_true]

/-- The swing that a DETECT needs, as a difference of numbers: below the peak it does not wrap (41_tracker R154). -/
theorem detects_iff (hlt : input.toNat < s.runningMax.toNat) :
    detects input s = true ↔
      input.toNat ≤ s.cfg.minT.toNat ∧ s.cfg.peakDelta ≤ s.runningMax.toNat - input.toNat := by
  have hswing : (s.runningMax - input).toNat = s.runningMax.toNat - input.toNat :=
    BitVec.toNat_sub_of_le (BitVec.le_def.mpr hlt.le)
  simp only [detects, hswing, Bool.and_eq_true, decide_eq_true_eq, BitVec.le_def]

end Branches

/-- A tracker step whose sample does not qualify counts nothing (41_tracker R155). -/
theorem trackerStep_claps_of_not_detects {input : Byte} {s : State} (h : detects input s = false) :
    (trackerStep input s).clapCount = s.clapCount ∧ (trackerStep input s).lastClap = s.lastClap := by
  obtain ⟨-, he⟩ | ⟨-, -, he⟩ | ⟨-, -, -, he⟩ | ⟨-, -, -, hd, -⟩ | ⟨-, -, -, -, he⟩ := trackerStep_cases input s
  case inr.inr.inr.inl => exact absurd (hd.symm.trans h) (by decide)
  all_goals (rw [he]; exact ⟨rfl, rfl⟩)

/-! ## What a branch writes -/

/-- A clap in the numbers of the cells (41_tracker R155–R157). -/
theorem detectClap_eq (s : State) :
    detectClap s = { s with
      clapCount := if s.clapCount.toNat < 127 then s.clapCount + 1 else s.clapCount
      lastClap := s.envMs, runningMax := s.cfg.debBaseByte, countdown := s.cfg.debCdByte } := by
  have hbelow : s.clapCount < 127 ↔ s.clapCount.toNat < 127 := BitVec.lt_def
  simp only [detectClap, accumulate, memWrite4, nowMs, hbelow]

/-- A decay in terms of the countdown before it (41_tracker R158). -/
theorem decayPeak_eq (s : State) :
    decayPeak s = { s with
      countdown := s.countdown - 1, runningMax := if s.countdown = 1 then s.cfg.maxT else s.runningMax } := by
  simp only [decayPeak, sub_eq_zero]

/-- The timeout (41_tracker R158). -/
theorem decayPeak_of_one {s : State} (h : s.countdown = 1) :
    decayPeak s = { s with countdown := 0, runningMax := s.cfg.maxT } := by
  rw [decayPeak_eq, if_pos h, h, sub_self]

/-- A debounce step in terms of the countdown before it (41_tracker R159). -/
theorem debounceStep_eq (s : State) :
    debounceStep s = { s with
      countdown := s.countdown - 1
      runningMax := if s.countdown = 1 then s.runningMax + 1 else s.runningMax } := by
  simp only [debounceStep, sub_eq_zero]

/-! ## Tracker states -/

theorem trackerMode_eq_debounce_iff {s : State} :
    trackerMode s = .debounce ↔ s.runningMax.toNat < s.cfg.maxT.toNat := by
  unfold trackerMode
  split
  case isTrue h => exact iff_of_true rfl h
  case isFalse h => split <;> exact iff_of_false (by decide) h

/-- Idle at the ceiling: where reset, `INIT`, a timeout and the end of a debounce leave the tracker. -/
def AtCeiling (s : State) : Prop := s.runningMax = s.cfg.maxT ∧ s.countdown = 0

theorem AtCeiling.idle {s : State} (h : AtCeiling s) : trackerMode s = .idle :=
  trackerMode_eq_idle_iff.mpr ⟨(congrArg BitVec.toNat h.1).ge, congrArg BitVec.toNat h.2⟩

theorem AtCeiling.trackerOk {s : State} (h : AtCeiling s) (hc : ValidConfig s.cfg) : TrackerOk s := by
  obtain ⟨hmax, hcd⟩ := h
  rw [trackerOk_iff, hmax, hcd]
  exact ⟨(debBase_lt_maxT hc).le, fun _ _ => rfl, fun _ h0 => absurd rfl h0⟩

/-- The last stair: a debounce step that reaches MAX_T does so with `countdown` 0 (41_tracker R160). -/
theorem atCeiling_debounceStep {s : State} (hlt : s.runningMax.toNat < s.cfg.maxT.toNat)
    (h : (debounceStep s).runningMax = s.cfg.maxT) : AtCeiling (debounceStep s) := by
  refine ⟨h, ?_⟩
  by_contra hcd
  have hsame : (debounceStep s).runningMax = s.runningMax := if_neg hcd
  exact absurd (congrArg BitVec.toNat (hsame.symm.trans h)) hlt.ne

/-! ## Reset and INIT -/

theorem inv_resetWith {c : Config} (ms : Dword) (hc : ValidConfig c) : Inv (State.resetWith c ms) where
  config := hc
  unmarked := ⟨rfl, rfl⟩
  registers := ⟨BitVec.zero_and, BitVec.zero_and, BitVec.zero_and, BitVec.getElem_zero (by decide)⟩
  converter :=
    have hadie : (State.resetWith c ms).adie = false := BitVec.getElem_zero (by decide)
    ⟨fun h => absurd (hadie.symm.trans h) Bool.false_ne_true, fun h => absurd h Bool.false_ne_true, fun _ => rfl⟩
  tracker := AtCeiling.trackerOk ⟨rfl, rfl⟩ hc
  counters := countersOk_of_le (Nat.zero_le 127) (Nat.zero_le 126) le_rfl
  poll := trivial
  events := rfl

/-- Settles O13: reset and `INIT` both leave the tracker idle at MAX_T and the counters at 0. -/
theorem resetAndInitEstablishInvariant : Obligations.ResetAndInitEstablishInvariant := by
  refine ⟨fun c ms hc => inv_resetWith ms hc, inv_resetWith _ validConfig_atReset, fun s hc hr ha => ?_⟩
  have hceiling : AtCeiling (initRegisters (initCells s)) := ⟨rfl, rfl⟩
  exact ⟨_, exec_init_of_ready hr ha,
    ⟨hceiling.trackerOk hc, countersOk_of_le (Nat.zero_le 127) (Nat.zero_le 126) le_rfl⟩, hceiling.idle⟩

/-! ## The interrupt in each mode -/

theorem afterIsr_of_step {s t : State} (h : trackerStep s.adch s = t) :
    afterIsr s = { t with adcsra := s.adcsra &&& 0xEF } := by
  rw [afterIsr, h]

/-- Settles O27: RISE and HOLD of the tracker step. -/
theorem isrInIdle : Obligations.IsrInIdle := by
  intro s hadif hadie hgie hge hcd
  rw [exec_isr_of_pending hadif hadie hgie]
  refine ⟨fun hle => ?_, fun hlt => ?_⟩
  · rw [afterIsr_of_step (trackerStep_of_peak hge hle)]; rfl
  · rw [afterIsr_of_step (trackerStep_of_idle hge hlt hcd)]

/-- Settles O28: REFRESH, DETECT and DECAY of the tracker step, the swing read as a difference of numbers. -/
theorem isrWhileTracking : Obligations.IsrWhileTracking := by
  intro s hadif hadie hgie hge hcd clap
  rw [exec_isr_of_pending hadif hadie hgie]
  refine ⟨fun hle => ?_, fun hlt hclap => ?_, fun hlt hclap => ?_⟩
  · rw [afterIsr_of_step (trackerStep_of_peak hge hle)]; rfl
  · rw [afterIsr_of_step (trackerStep_of_clap hge hlt hcd ((detects_iff hlt).mpr hclap)), detectClap_eq]
  · have hnot : detects s.adch s = false := Bool.eq_false_iff.mpr fun hd => hclap ((detects_iff hlt).mp hd)
    rw [afterIsr_of_step (trackerStep_of_decay hge hlt hcd hnot), decayPeak_eq]

/-- Settles O29: the tracker step is a debounce step, and the last stair leaves `countdown` 0. -/
theorem isrInDebounce : Obligations.IsrInDebounce := by
  intro s hadif hadie hgie hlt
  refine ⟨afterIsr s, exec_isr_of_pending hadif hadie hgie, ?_⟩
  rw [afterIsr_of_step (trackerStep_of_debounce hlt)]
  refine ⟨by rw [debounceStep_eq], fun htop => ?_⟩
  exact AtCeiling.idle (atCeiling_debounceStep hlt htop)

/-! ## Lists of samples -/

theorem trackSamples_append (first second : List Byte) (s : State) :
    trackSamples (first ++ second) s = trackSamples second (trackSamples first s) := by
  induction first generalizing s with
  | nil => rfl
  | cons x rest ih => exact ih (trackerStep x s)

theorem trackerStep_cfg (input : Byte) (s : State) : (trackerStep input s).cfg = s.cfg := by
  rw [trackerStep_frame]

theorem trackSamples_cfg (inputs : List Byte) (s : State) : (trackSamples inputs s).cfg = s.cfg := by
  induction inputs generalizing s with
  | nil => rfl
  | cons x rest ih => exact (ih (trackerStep x s)).trans (trackerStep_cfg x s)

/-- A sample above MIN_T never qualifies (41_tracker R154). -/
theorem detects_eq_false_of_minT_lt {input : Byte} {s : State} (h : s.cfg.minT.toNat < input.toNat) :
    detects input s = false := by
  have hhigh : ¬ input ≤ s.cfg.minT := Nat.not_le.mpr h
  rw [detects, decide_eq_false hhigh, Bool.false_and]

/-- Settles O32, by induction on the samples: none of them qualifies. -/
theorem sustainedSignalCountsNothing : Obligations.SustainedSignalCountsNothing := by
  intro inputs s hhigh
  induction inputs generalizing s with
  | nil => exact ⟨rfl, rfl⟩
  | cons x rest ih =>
    obtain ⟨hx, hrest⟩ := List.forall_mem_cons.mp hhigh
    obtain ⟨hclap, hlast⟩ := trackerStep_claps_of_not_detects (detects_eq_false_of_minT_lt hx)
    obtain ⟨hclap', hlast'⟩ := ih (trackerStep x s) (by rwa [trackerStep_cfg])
    exact ⟨hclap'.trans hclap, hlast'.trans hlast⟩

/-! ## The debounce staircase (41_tracker R159–R161) -/

/-- `n` debounce steps are left until the tracker is idle at MAX_T: 256 for each whole stair above the next one,
and `countdown` until the next one, where 0 stands for 256. -/
def DebounceLeft (n : Nat) (s : State) : Prop :=
  s.runningMax.toNat ≤ s.cfg.maxT.toNat ∧
    256 * (s.cfg.maxT.toNat - s.runningMax.toNat) + (s.countdown - 1).toNat = n + 255

theorem DebounceLeft.atCeiling {s : State} (h : DebounceLeft 0 s) : AtCeiling s := by
  obtain ⟨hle, hleft⟩ := h
  constructor <;> bv_omega

theorem DebounceLeft.below {n : Nat} {s : State} (h : DebounceLeft (n + 1) s) :
    s.runningMax.toNat < s.cfg.maxT.toNat := by
  obtain ⟨hle, hleft⟩ := h
  bv_omega

theorem DebounceLeft.debounceStep {n : Nat} {s : State} (h : DebounceLeft (n + 1) s) :
    DebounceLeft n (debounceStep s) := by
  have hlt := h.below
  obtain ⟨-, hleft⟩ := h
  simp only [DebounceLeft, Machine.debounceStep]
  split <;> constructor <;> bv_omega

/-- The samples of a debounce run its steps whatever they are, and count nothing. -/
theorem DebounceLeft.trackSamples {n : Nat} (inputs : List Byte) {s : State} (h : DebounceLeft (n + inputs.length) s) :
    DebounceLeft n (trackSamples inputs s) ∧
      (trackSamples inputs s).clapCount = s.clapCount ∧ (trackSamples inputs s).lastClap = s.lastClap := by
  induction inputs generalizing s with
  | nil => exact ⟨h, rfl, rfl⟩
  | cons x rest ih =>
    rw [List.length_cons, ← Nat.add_assoc] at h
    rw [Machine.trackSamples, trackerStep_of_debounce h.below]
    exact ih h.debounceStep

/-- Debounce entry packs DEB_SAMPLES + 1 steps into the two cells (41_tracker R157). -/
theorem debounceLeft_of_entry {s : State} (hc : ValidConfig s.cfg) (hmax : s.runningMax = s.cfg.debBaseByte)
    (hcd : s.countdown = s.cfg.debCdByte) : DebounceLeft (s.cfg.debSamples + 1) s := by
  have hbase := debBaseByte_toNat hc
  have hstairs := debBase_add_debHi hc
  have hlow : s.countdown.toNat = (s.cfg.debLo + 1) % 256 := by rw [hcd, debCdByte_toNat, Config.debCd]
  have hpack : 256 * s.cfg.debHi + s.cfg.debLo = s.cfg.debSamples := Nat.div_add_mod _ 256
  have hlo : s.cfg.debLo < 256 := Nat.mod_lt _ (by decide)
  rw [DebounceLeft, hmax, hbase]
  constructor <;> bv_omega

/-- Settles O30: each sample takes one of the DEB_SAMPLES + 1 steps that debounce entry packs. -/
theorem debounceLastsDebSamplesPlusOne : Obligations.DebounceLastsDebSamplesPlusOne := by
  refine ⟨fun s hc => ⟨rfl, rfl, debBaseByte_toNat hc, debCdByte_toNat s.cfg, ?_⟩,
    fun s inputs hc hmax hcd hlen => ?_⟩
  · rw [trackerMode_eq_debounce_iff, detectClap_runningMax, detectClap_cfg, debBaseByte_toNat hc]
    exact debBase_lt_maxT hc
  · obtain ⟨left, hleft⟩ := Nat.exists_eq_add_of_le' hlen
    have hentry := debounceLeft_of_entry hc hmax hcd
    rw [hleft] at hentry
    obtain ⟨hend, hclap, hlast⟩ := hentry.trackSamples inputs
    refine ⟨hclap, hlast, fun hshort => ?_, fun hall => ?_⟩
    · obtain ⟨m, rfl⟩ := Nat.exists_eq_add_one_of_ne_zero (n := left) (by omega)
      exact trackerMode_eq_debounce_iff.mpr hend.below
    · obtain rfl : left = 0 := by omega
      obtain ⟨hceiling, hzero⟩ := hend.atCeiling
      exact ⟨hceiling.trans (congrArg Config.maxT (trackSamples_cfg inputs s)), hzero, hend.atCeiling.idle⟩

/-! ## After a peak (41_tracker R158, R162) -/

/-- A tracked peak loses one of its `countdown` samples to each that is lower and does not qualify. -/
theorem trackSamples_of_lower (inputs : List Byte) {s : State} (hge : s.cfg.maxT.toNat ≤ s.runningMax.toNat)
    (hlow : ∀ x ∈ inputs, x.toNat < s.runningMax.toNat ∧ detects x s = false)
    (hlen : inputs.length < s.countdown.toNat) :
    trackSamples inputs s = { s with countdown := s.countdown - BitVec.ofNat 8 inputs.length } := by
  induction inputs generalizing s with
  | nil => simp [trackSamples]
  | cons x rest ih =>
    obtain ⟨⟨hlt, hnot⟩, hrest⟩ := List.forall_mem_cons.mp hlow
    rw [List.length_cons] at hlen
    have hstep : trackerStep x s = { s with countdown := s.countdown - 1 } := by
      rw [trackerStep_of_decay hge hlt (by bv_omega) hnot, decayPeak, if_neg (by bv_omega)]
    have hcount : s.countdown - 1 - BitVec.ofNat 8 rest.length = s.countdown - BitVec.ofNat 8 (rest.length + 1) := by
      bv_omega
    rw [trackSamples, hstep, ih (s := { s with countdown := s.countdown - 1 }) hge hrest (by bv_omega),
      List.length_cons, ← hcount]

/-- The last of them is the timeout, which returns the tracker to idle at MAX_T (41_tracker R158). -/
theorem trackSamples_timeout {inputs : List Byte} {s : State} (hge : s.cfg.maxT.toNat ≤ s.runningMax.toNat)
    (hcd : s.countdown ≠ 0) (hlow : ∀ x ∈ inputs, x.toNat < s.runningMax.toNat ∧ detects x s = false)
    (hlen : inputs.length = s.countdown.toNat) :
    trackSamples inputs s = { s with countdown := 0, runningMax := s.cfg.maxT } := by
  obtain rfl | ⟨before, x, rfl⟩ := List.eq_nil_or_concat' inputs
  · exact absurd (BitVec.eq_of_toNat_eq hlen.symm) hcd
  obtain ⟨hbefore, hlast⟩ := List.forall_mem_append.mp hlow
  obtain ⟨hlt, hnot⟩ := hlast x (List.mem_singleton_self x)
  rw [List.length_append, List.length_singleton] at hlen
  have hone : s.countdown - BitVec.ofNat 8 before.length = 1 := by bv_omega
  rw [trackSamples_append, trackSamples_of_lower before hge hbefore (by omega), hone]
  exact (trackerStep_of_decay (s := { s with countdown := 1 }) hge hlt (by decide : (1 : Byte) ≠ 0) hnot).trans
    (decayPeak_of_one rfl)

/-- Settles O31: before the last of PEAK_TIMEOUT lower samples only `countdown` has changed, and the last is the
timeout. -/
theorem peakTimeoutLastsItsSamples : Obligations.PeakTimeoutLastsItsSamples := by
  intro s inputs hc hge hcd hlow hlen
  have htimeout : s.countdown.toNat = s.cfg.peakTimeout := by rw [hcd, peakTimeoutByte_toNat hc]
  obtain ⟨-, -, -, -, hpos, -⟩ := validConfig_iff.mp hc
  obtain hshort | hall := hlen.lt_or_eq
  · have hlive : (s.countdown - BitVec.ofNat 8 inputs.length).toNat ≠ 0 := by bv_omega
    have htracked := trackSamples_of_lower inputs hge hlow (by omega)
    refine ⟨by rw [htracked], by rw [htracked], fun _ => ⟨?_, by rw [htracked], fun x hlt hd => ?_⟩,
      fun h => absurd h hshort.ne⟩
    · rw [htracked]
      exact trackerMode_eq_tracking_iff.mpr ⟨hge, hlive⟩
    · rw [trackSamples_append, htracked]
      exact trackerStep_of_clap (s := { s with countdown := s.countdown - BitVec.ofNat 8 inputs.length }) hge hlt
        (fun h0 => hlive (congrArg BitVec.toNat h0)) hd
  · have hended := trackSamples_timeout hge (by bv_omega) hlow (by omega)
    refine ⟨by rw [hended], by rw [hended], fun h => absurd hall h.ne, fun _ => ⟨by rw [hended], ?_⟩⟩
    rw [hended]
    exact AtCeiling.idle ⟨rfl, rfl⟩

/-! ## Quiet programs (41_tracker R164, 42_reducer R210) -/

/-- The tracker of a quiet state: in debounce, or idle at MAX_T. -/
theorem Quiet.tracker {s : State} (h : Quiet s) : s.runningMax.toNat < s.cfg.maxT.toNat ∨ AtCeiling s := by
  cases hm : trackerMode s with
  | debounce => exact .inl (trackerMode_eq_debounce_iff.mp hm)
  | idle => exact .inr ⟨h.idleCeiling hm, BitVec.eq_of_toNat_eq (trackerMode_eq_idle_iff.mp hm).2⟩
  | tracking => exact absurd hm h.notTracking

/-- `s` is quiet when its tracker is in debounce or idle at MAX_T, and the rest of it is as in the definition. -/
theorem quiet_of_tracker {s : State} (htracker : s.runningMax.toNat < s.cfg.maxT.toNat ∨ AtCeiling s)
    (hsample : s.adch.toNat < s.cfg.maxT.toNat) (hclaps : s.clapCount = 0 ∧ s.processedClaps = 0)
    (hphase : s.hp = .ready ∨ s.hp = .pRead2) (hevents : ∀ e ∈ s.events, e = .noEvent) : Quiet s := by
  obtain hlt | hceiling := htracker
  · have hm : trackerMode s = .debounce := trackerMode_eq_debounce_iff.mpr hlt
    exact ⟨by simp [hm], by simp [hm], hsample, hclaps, hphase, hevents⟩
  · exact ⟨by simp [hceiling.idle], fun _ => hceiling.1, hsample, hclaps, hphase, hevents⟩

/-- The sample of a quiet state keeps it quiet: a debounce step stays at or below MAX_T, and idle holds. -/
theorem Quiet.trackerStep {s : State} (h : Quiet s) : Quiet (trackerStep s.adch s) := by
  obtain hlt | hceiling := h.tracker
  · rw [trackerStep_of_debounce hlt]
    have htop : (debounceStep s).runningMax.toNat < s.cfg.maxT.toNat ∨ (debounceStep s).runningMax = s.cfg.maxT := by
      rw [debounceStep_eq]
      split <;> bv_omega
    exact quiet_of_tracker (htop.imp_right (atCeiling_debounceStep hlt)) h.sampleBelow h.noClaps h.phase h.onlyNoEvent
  · obtain ⟨hmax, hcd⟩ := hceiling
    have hpeak := congrArg BitVec.toNat hmax
    rwa [trackerStep_of_idle hpeak.ge (h.sampleBelow.trans_eq hpeak.symm) hcd]

theorem quiet_resetWith {c : Config} (ms : Dword) (hc : ValidConfig c) : Quiet (State.resetWith c ms) := by
  have hpos : 0 < c.maxT.toNat := Nat.zero_lt_of_lt (validConfig_iff.mp hc).1
  exact quiet_of_tracker (.inr ⟨rfl, rfl⟩) hpos ⟨rfl, rfl⟩ (.inl rfl) (by simp [State.resetWith])

/-- The registers, the mask, the clock and the draws are no part of quietness. -/
theorem Quiet.of_writes {s t : State} (h : Quiet s)
    (ht : t = { s with adcsra := t.adcsra, gie := t.gie, envMs := t.envMs, draws := t.draws }) : Quiet t := by
  rw [ht]
  exact quiet_of_tracker h.tracker h.sampleBelow h.noClaps h.phase h.onlyNoEvent

/-- A quiet `poll()` reads 0 claps twice and returns NoEvent (42_reducer R210). -/
theorem Quiet.pRead1 {s : State} (h : Quiet s) : Quiet (pRead1 s) := by
  have hnone : ¬ s.processedClaps < s.clapCount := by
    rw [h.noClaps.1]
    exact BitVec.not_lt_zero
  rw [pRead1_of_not_lt hnone]
  exact quiet_of_tracker h.tracker h.sampleBelow h.noClaps (.inr rfl) h.onlyNoEvent

theorem Quiet.microStep {s : State} (h : Quiet s) (hp : s.hp ≠ .ready) : Quiet (microStep s) := by
  have hstep : Machine.microStep s = emit .noEvent { s with tmpC2 := s.clapCount } := by
    rw [Machine.microStep, h.phase.resolve_left hp]
    exact pRead2_of_not_pos (by rw [h.noClaps.1]; exact BitVec.not_lt_zero)
  have hevents : ∀ e ∈ s.events ++ [Event.noEvent], e = .noEvent :=
    List.forall_mem_append.mpr ⟨h.onlyNoEvent, fun _ he => List.mem_singleton.mp he⟩
  rw [hstep]
  exact quiet_of_tracker h.tracker h.sampleBelow h.noClaps (.inl rfl) hevents

/-- Every operation but a conversion at or above MAX_T keeps a quiet state quiet. -/
theorem Quiet.exec {i : Instr} {s t : State} (h : Quiet s)
    (hsample : ∀ v, i = .convert v → v.toNat < s.cfg.maxT.toNat) (ht : exec i s = .next t) : Quiet t := by
  cases i with
  | init =>
    obtain ⟨-, -, rfl⟩ := execInit_next ht
    exact quiet_of_tracker (.inr ⟨rfl, rfl⟩) h.sampleBelow ⟨rfl, rfl⟩ h.phase h.onlyNoEvent
  | enable => obtain ⟨-, -, rfl⟩ := execEnable_next ht; exact h.of_writes (by rw [setInterruptEnable_eq]; rfl)
  | disable => obtain ⟨-, rfl⟩ := execDisable_next ht; exact h.of_writes (by rw [setInterruptEnable_eq]; rfl)
  | poll => obtain ⟨-, rfl⟩ := execPoll_next ht; exact h.pRead1
  | sei => obtain ⟨-, rfl⟩ := execSei_next ht; exact h.of_writes rfl
  | cli => obtain ⟨-, rfl⟩ := execCli_next ht; exact h.of_writes rfl
  | hstep => obtain ⟨hp, rfl⟩ := execHstep_next ht; exact h.microStep hp
  | convert v =>
    obtain ⟨-, -, rfl⟩ := execConvert_next ht
    exact quiet_of_tracker h.tracker (hsample v rfl) h.noClaps h.phase h.onlyNoEvent
  | isr =>
    obtain ⟨-, -, hgie, rfl⟩ := execIsr_next ht
    rw [interruptReturn_serviceSample s hgie]
    exact h.trackerStep.of_writes rfl
  | advance k => rw [execAdvance_next ht]; exact h.of_writes rfl

theorem lt_maxT_of_quietWord {c : Config} {w : Word} {v : Byte} (h : quietWord c w = true)
    (hd : decode w = .ok (.convert v)) : v.toNat < c.maxT.toNat := by
  simpa [quietWord, hd] using h

theorem Quiet.perform (program : List Word) {s t : State} (h : Quiet s)
    (hquiet : program.all (quietWord s.cfg) = true) (ht : perform program s = .next t) : Quiet t := by
  induction program generalizing s with
  | nil => cases ht; exact h
  | cons w rest ih =>
    obtain ⟨-, -, i, m, hd, hm, hrest⟩ := perform_cons_next ht
    obtain ⟨hw, hquiet'⟩ := (Bool.and_eq_true _ _).mp hquiet
    have hsample : ∀ v, i = .convert v → v.toNat < s.cfg.maxT.toNat :=
      fun v hv => lt_maxT_of_quietWord hw (hv ▸ hd)
    exact ih (h.exec hsample hm) (by rwa [(exec_frame hm).1]) hrest

/-- Settles O33: reset is quiet, and every quiet word keeps quietness, which holds the trace to NoEvent. -/
theorem quietProgramReportsOnlyNoEvent : Obligations.QuietProgramReportsOnlyNoEvent := by
  refine ⟨fun _ ms => quiet_resetWith ms, fun program s s' _ h hquiet ht => ?_⟩
  have hend := h.perform program hquiet ht
  exact ⟨hend, hend.onlyNoEvent⟩

end Sys2Proof.Machine

/-! PROOFS of the family 42_reducer: the micro-steps of `poll()`, whole polls, the interrupt inside a finishing poll,
the finish under ATOMIC_FINISH. -/

namespace Sys2Proof.Machine

/-! ## POLL and HSTEP, phase by phase -/

section MicroSteps
variable {s : State}

/-- `HSTEP` performs the micro-step that the phase names (42_reducer R190). -/
theorem exec_hstep_of_phase {phase : HostPhase} {t : State} (hp : s.hp = phase) (hne : phase ≠ .ready)
    (ht : microStep s = t) : exec .hstep s = .next t := by
  rw [exec_hstep_of_polling (hp ▸ hne), ht]

theorem exec_hstep_pRead2 (hp : s.hp = .pRead2) : exec .hstep s = .next (pRead2 s) :=
  exec_hstep_of_phase hp (by decide) (by simp only [microStep, hp])

theorem exec_hstep_pRead2_of_ne (hp : s.hp = .pRead2) (h : s.clapCount ≠ 0) :
    exec .hstep s = .next { s with tmpC2 := s.clapCount, hp := .pCsEnter } := by
  rw [exec_hstep_pRead2 hp, pRead2_of_pos (by bv_omega)]

theorem exec_hstep_pRead2_of_eq (hp : s.hp = .pRead2) (h : s.clapCount = 0) :
    exec .hstep s = .next { s with tmpC2 := 0, events := s.events ++ [.noEvent], hp := .ready } := by
  rw [exec_hstep_pRead2 hp, pRead2_of_not_pos (by bv_omega), h, emit]

theorem exec_hstep_pInprog (hp : s.hp = .pInprog) : exec .hstep s = .next (pInprog s) :=
  exec_hstep_of_phase hp (by decide) (by simp only [microStep, hp])

theorem exec_hstep_pInprog_of_ne (hp : s.hp = .pInprog) (h : s.processedClaps ≠ 126) :
    exec .hstep s = .next { s with
      processedClaps := s.processedClaps + 1
      events := s.events ++ [.seriesInProgress (s.processedClaps + 1)], hp := .ready } := by
  rw [exec_hstep_pInprog hp, pInprog_of_ne (by bv_omega), emit]

theorem exec_hstep_pInprog_of_eq (hp : s.hp = .pInprog) (h : s.processedClaps = 126) :
    exec .hstep s = .next { s with
      clapCount := 0, processedClaps := 0, events := s.events ++ [.overflow], hp := .ready } := by
  rw [exec_hstep_pInprog hp, pInprog_of_eq (by bv_omega), emit]

theorem exec_hstep_pCsEnter (hp : s.hp = .pCsEnter) :
    exec .hstep s = .next { s with tmpG := s.gie, gie := false, hp := .pCsRead } :=
  exec_hstep_of_phase hp (by decide) (by simp only [microStep, hp]; rfl)

theorem exec_hstep_pCsRead (hp : s.hp = .pCsRead) :
    exec .hstep s = .next { s with tmpT := s.lastClap, hp := .pCsExit } :=
  exec_hstep_of_phase hp (by decide) (by simp only [microStep, hp]; rfl)

theorem exec_hstep_pCsExit (hp : s.hp = .pCsExit) : exec .hstep s = .next { s with gie := s.tmpG, hp := .pNow } :=
  exec_hstep_of_phase hp (by decide) (by simp only [microStep, hp]; rfl)

theorem exec_hstep_pNow (hp : s.hp = .pNow) : exec .hstep s = .next { s with tmpNow := s.envMs, hp := .pCmp } :=
  exec_hstep_of_phase hp (by decide) (by simp only [microStep, hp]; rfl)

theorem exec_hstep_pCmp (hp : s.hp = .pCmp) : exec .hstep s = .next (pCmp s) :=
  exec_hstep_of_phase hp (by decide) (by simp only [microStep, hp])

theorem exec_hstep_pCmp_of_timedOut (hp : s.hp = .pCmp) (h : timedOut s.cfg s.tmpT s.tmpNow) :
    exec .hstep s = .next { s with hp := .pSnap } := by
  rw [exec_hstep_pCmp hp, pCmp_of_timedOut h]

theorem exec_hstep_pCmp_of_not_timedOut (hp : s.hp = .pCmp) (h : ¬ timedOut s.cfg s.tmpT s.tmpNow) :
    exec .hstep s = .next { s with events := s.events ++ [.noEvent], hp := .ready } := by
  rw [exec_hstep_pCmp hp, pCmp_of_not_timedOut h, emit]

theorem exec_hstep_pSnap (hp : s.hp = .pSnap) : exec .hstep s = .next (pSnap s) :=
  exec_hstep_of_phase hp (by decide) (by simp only [microStep, hp])

theorem exec_hstep_pSnap_of_not_atomic (hp : s.hp = .pSnap) (h : s.cfg.atomicFinish = false) :
    exec .hstep s = .next { s with tmpS := s.clapCount, hp := .pRmwRead } := by
  rw [exec_hstep_pSnap hp, pSnap_of_not_atomic (by simp [h])]

theorem exec_hstep_pSnap_of_atomic (hp : s.hp = .pSnap) (h : s.cfg.atomicFinish = true) :
    exec .hstep s = .next { s with
      tmpS := s.clapCount, clapCount := s.clapCount - s.processedClaps, processedClaps := 0
      events := s.events ++ [.seriesFinished s.clapCount], hp := .ready } := by
  rw [exec_hstep_pSnap hp, pSnap_of_atomic h, emit]

theorem exec_hstep_pRmwRead (hp : s.hp = .pRmwRead) :
    exec .hstep s = .next { s with tmpR := s.clapCount, hp := .pRmwWrite } :=
  exec_hstep_of_phase hp (by decide) (by simp only [microStep, hp]; rfl)

theorem exec_hstep_pRmwWrite (hp : s.hp = .pRmwWrite) :
    exec .hstep s = .next { s with clapCount := s.tmpR - s.processedClaps, hp := .pFinDone } :=
  exec_hstep_of_phase hp (by decide) (by simp only [microStep, hp]; rfl)

theorem exec_hstep_pFinDone (hp : s.hp = .pFinDone) :
    exec .hstep s = .next { s with
      processedClaps := 0, events := s.events ++ [.seriesFinished s.tmpS], hp := .ready } :=
  exec_hstep_of_phase hp (by decide) (by simp only [microStep, hp]; rfl)

end MicroSteps

/-- Settles O41: the two branches of P_READ1 are the two outcomes of the comparison. -/
theorem pollReadsClapCount : Obligations.PollReadsClapCount := by
  refine ⟨rfl, fun s => ⟨fun hp => exec_refused_of_polling hp (by simp), fun hr => ?_⟩⟩
  rw [exec_poll_of_ready hr]
  by_cases hlt : s.processedClaps < s.clapCount
  · rw [pRead1_of_lt hlt, if_pos (BitVec.lt_def.mp hlt)]
  · rw [pRead1_of_not_lt hlt, if_neg (mt BitVec.lt_def.mpr hlt)]

/-- Settles O42: P_READ2 on either side of its test of the count. -/
theorem secondReadOrNoEvent : Obligations.SecondReadOrNoEvent :=
  ⟨rfl, fun _ hp => ⟨exec_hstep_pRead2_of_ne hp, exec_hstep_pRead2_of_eq hp⟩⟩

/-- At P_INPROG the poll has seen a count above the processed claps, so at 126 it has seen 127 (42_reducer R195). -/
theorem Inv.tmpC1_of_overflow {s : State} (h : Inv s) (hp : s.hp = .pInprog) (h126 : s.processedClaps = 126) :
    s.tmpC1 = 127 ∧ s.clapCount = 127 := by
  have hpoll := h.poll
  have hrange := h.counters.clapRange
  simp only [PollOk, hp] at hpoll
  constructor <;> bv_omega

/-- Settles O43: the two branches of P_INPROG, and what a poll there knows. -/
theorem inProgressOrOverflow : Obligations.InProgressOrOverflow := fun _ hp =>
  ⟨exec_hstep_pInprog_of_ne hp, exec_hstep_pInprog_of_eq hp, fun hinv h126 => (hinv.tmpC1_of_overflow hp h126).1⟩

/-- Settles O44: the three micro-steps that enclose the read of `last_clap`. -/
theorem criticalSectionMicroSteps : Obligations.CriticalSectionMicroSteps := fun _ =>
  ⟨exec_hstep_pCsEnter, exec_hstep_pCsRead, exec_hstep_pCsExit⟩

/-- The timeout in the numbers of the two clock readings: the difference wraps mod 2^32 (42_reducer R201). -/
theorem timedOut_iff {c : Config} {t now : Dword} :
    timedOut c t now ↔ c.seriesTimeoutMs.toNat < (now.toNat + 2 ^ 32 - t.toNat) % 2 ^ 32 := by
  unfold timedOut
  bv_omega

/-- Settles O45: the comparison of P_CMP is `timedOut`, and equality is none. -/
theorem seriesTimeoutComparison : Obligations.SeriesTimeoutComparison := fun _ =>
  ⟨exec_hstep_pNow, fun hp =>
    ⟨fun h => exec_hstep_pCmp_of_timedOut hp (timedOut_iff.mpr h),
      fun h => exec_hstep_pCmp_of_not_timedOut hp (mt timedOut_iff.mp (Nat.not_lt.mpr h))⟩⟩

/-- Settles O46: the four micro-steps of the finish that an interrupt can come between. -/
theorem finishMicroSteps : Obligations.FinishMicroSteps := fun _ =>
  ⟨exec_hstep_pSnap_of_not_atomic, exec_hstep_pRmwRead, exec_hstep_pRmwWrite, exec_hstep_pFinDone⟩

/-- Settles O47: P_SNAP in its atomic form. -/
theorem atomicFinishMicroStep : Obligations.AtomicFinishMicroStep := fun _ => exec_hstep_pSnap_of_atomic

/-! ## The finish under ATOMIC_FINISH (42_reducer R206, R213) -/

/-- A micro-step of a poll under ATOMIC_FINISH that lowers the count reports what it takes away: the other write of
the count, P_RMW_WRITE, is not reached. -/
theorem microStep_lowers_clapCount {s : State} (h : Inv s) (hat : s.cfg.atomicFinish = true)
    (hless : (microStep s).clapCount.toNat < s.clapCount.toNat) :
    (microStep s).events = s.events ++ [.seriesFinished s.clapCount] ∧
        (microStep s).clapCount.toNat + s.processedClaps.toNat = s.clapCount.toNat ∧
        (microStep s).processedClaps = 0 ∨
      (microStep s).events = s.events ++ [.overflow] ∧ s.clapCount = 127 ∧ s.processedClaps = 126 := by
  unfold microStep at hless ⊢
  cases hp : s.hp with
  | ready | pRead1 | pCsEnter | pCsRead | pCsExit | pNow | pRmwRead | pFinDone =>
    simp only [hp] at hless
    exact absurd hless (lt_irrefl _)
  | pRead2 =>
    simp only [hp, pRead2, apply_ite State.clapCount, emit_clapCount, ite_self] at hless
    exact absurd hless (lt_irrefl _)
  | pCmp =>
    simp only [hp, pCmp, apply_ite State.clapCount, emit_clapCount, ite_self] at hless
    exact absurd hless (lt_irrefl _)
  | pInprog =>
    simp only [hp] at hless ⊢
    by_cases h127 : s.processedClaps + 1 = 127
    · have h126 : s.processedClaps = 126 := by bv_omega
      rw [pInprog_of_eq h127]
      exact .inr ⟨rfl, (h.tmpC1_of_overflow hp h126).2, h126⟩
    · rw [pInprog_of_ne h127] at hless
      exact absurd hless (lt_irrefl _)
  | pSnap =>
    have hle := h.counters.countedFirst (by simp [hp])
    simp only [pSnap_of_atomic hat]
    exact .inl ⟨rfl, (congrArg (· + _) (BitVec.toNat_sub_of_le hle)).trans (Nat.sub_add_cancel hle), rfl⟩
  | pRmwWrite =>
    have hpoll := h.poll
    simp [PollOk, hp, hat] at hpoll

/-- Settles O54: the count is written by `ISR`, which raises it, and by the micro-steps. -/
theorem atomicFinishLosesNoClap : Obligations.AtomicFinishLosesNoClap := by
  intro s t i hinv hat hexec hinit hless
  obtain ⟨-, hkept, hisr, -⟩ := onlyOwnersWrite i s t hexec
  by_cases hi : i = .isr
  · obtain hsame | hmore := hisr hi
    · exact absurd hless (by rw [hsame]; exact lt_irrefl _)
    · omega
  by_cases hh : i = .hstep
  · subst hh
    obtain ⟨-, rfl⟩ := execHstep_next hexec
    exact ⟨rfl, microStep_lowers_clapCount hinv hat hless⟩
  · exact absurd hless (by rw [hkept hinit hi hh]; exact lt_irrefl _)

/-! ## Sequences of micro-steps -/

/-- `n` times `HSTEP` leads from the one state to the other. -/
inductive HSteps : Nat → State → State → Prop
  | refl (s : State) : HSteps 0 s s
  | cons {n : Nat} {s t u : State} (first : exec .hstep s = .next t) (rest : HSteps n t u) : HSteps (n + 1) s u

theorem HSteps.perform_eq {n : Nat} {s t : State} (h : HSteps n s t) (hrun : CanRun s) :
    perform (hstepWords n) s = .next t := by
  induction h with
  | refl s => rfl
  | cons first rest ih =>
    rw [hstepWords, List.replicate_succ, perform_encode_cons hrun first]
    exact ih (hrun.exec first)

/-- A sequence of micro-steps that ends at Ready is as long as POLLX makes it (30_encoding R95). -/
theorem HSteps.hstepsToReady_eq {n fuel : Nat} {s t : State} (h : HSteps n s t) (hr : t.hp = .ready)
    (hn : n ≤ fuel) : hstepsToReady fuel s = n := by
  induction h generalizing fuel with
  | refl s => exact hstepsToReady_of_ready hr fuel
  | cons first rest ih =>
    obtain ⟨hp, rfl⟩ := execHstep_next first
    obtain ⟨fuel, rfl⟩ : ∃ k, fuel = k + 1 := ⟨fuel - 1, by omega⟩
    rw [hstepsToReady_of_polling hp, ih hr (by omega)]

/-- A whole poll performs its first micro-step and the sequence that leads from there to Ready. -/
theorem HSteps.wholePoll_eq {n : Nat} {s t : State} (h : HSteps n (pRead1 s) t) (hrun : CanRun s)
    (hs : s.hp = .ready) (ht : t.hp = .ready) (hn : n ≤ 11) : wholePoll s = .next t := by
  have hpoll := exec_poll_of_ready hs
  rw [wholePoll, performPseudo, expandPseudo, pollxWords, perform_encode_cons hrun hpoll,
    h.hstepsToReady_eq ht hn]
  exact h.perform_eq (hrun.exec hpoll)

/-! ## The end of a poll, from each phase of the timeout check and the finish -/

section PollTails
variable {s : State}

theorem hsteps_pRmwWrite (hp : s.hp = .pRmwWrite) :
    HSteps 2 s { s with
      clapCount := s.tmpR - s.processedClaps, processedClaps := 0
      events := s.events ++ [.seriesFinished s.tmpS], hp := .ready } :=
  .cons (exec_hstep_pRmwWrite hp) (.cons (exec_hstep_pFinDone rfl) (.refl _))

theorem hsteps_pRmwRead (hp : s.hp = .pRmwRead) :
    HSteps 3 s { s with
      tmpR := s.clapCount, clapCount := s.clapCount - s.processedClaps, processedClaps := 0
      events := s.events ++ [.seriesFinished s.tmpS], hp := .ready } :=
  .cons (exec_hstep_pRmwRead hp) (hsteps_pRmwWrite rfl)

theorem hsteps_pSnap (hp : s.hp = .pSnap) (hat : s.cfg.atomicFinish = false) :
    HSteps 4 s { s with
      tmpS := s.clapCount, tmpR := s.clapCount, clapCount := s.clapCount - s.processedClaps, processedClaps := 0
      events := s.events ++ [.seriesFinished s.clapCount], hp := .ready } :=
  .cons (exec_hstep_pSnap_of_not_atomic hp hat) (hsteps_pRmwRead rfl)

/-- Under either value of ATOMIC_FINISH the finish undisturbed takes away what is reported (42_reducer R202–R206). -/
theorem exists_hsteps_pSnap (hp : s.hp = .pSnap) :
    ∃ n r, n ≤ 4 ∧ HSteps n s { s with
      tmpS := s.clapCount, tmpR := r, clapCount := s.clapCount - s.processedClaps, processedClaps := 0
      events := s.events ++ [.seriesFinished s.clapCount], hp := .ready } := by
  cases hat : s.cfg.atomicFinish with
  | false => exact ⟨4, s.clapCount, le_rfl, hsteps_pSnap hp hat⟩
  | true => exact ⟨1, s.tmpR, by decide, .cons (exec_hstep_pSnap_of_atomic hp hat) (.refl _)⟩

/-- From the timeout check to the comparison: `gie` is restored (42_reducer R197–R200). -/
theorem HSteps.of_pCsEnter {n : Nat} {t : State} (hp : s.hp = .pCsEnter)
    (h : HSteps n { s with tmpG := s.gie, tmpT := s.lastClap, tmpNow := s.envMs, hp := .pCmp } t) :
    HSteps (n + 4) s t :=
  .cons (exec_hstep_pCsEnter hp) (.cons (exec_hstep_pCsRead rfl)
    (.cons (exec_hstep_pCsExit rfl) (.cons (exec_hstep_pNow rfl) h)))

theorem hsteps_pCmp_of_not_timedOut (hp : s.hp = .pCmp) (h : ¬ timedOut s.cfg s.tmpT s.tmpNow) :
    HSteps 1 s { s with events := s.events ++ [.noEvent], hp := .ready } :=
  .cons (exec_hstep_pCmp_of_not_timedOut hp h) (.refl _)

end PollTails

/-! ## Whole polls -/

section WholePolls
variable {s : State}

theorem wholePoll_seriesInProgress (hrun : CanRun s) (hr : s.hp = .ready)
    (hlt : s.processedClaps.toNat < s.clapCount.toNat) (h126 : s.processedClaps ≠ 126) :
    wholePoll s = .next { s with
      tmpC1 := s.clapCount, processedClaps := s.processedClaps + 1
      events := s.events ++ [.seriesInProgress (s.processedClaps + 1)], hp := .ready } := by
  refine HSteps.wholePoll_eq (n := 1) ?_ hrun hr rfl (by decide)
  rw [pRead1_of_lt (BitVec.lt_def.mpr hlt)]
  exact .cons (exec_hstep_pInprog_of_ne rfl h126) (.refl _)

theorem wholePoll_overflow (hrun : CanRun s) (hr : s.hp = .ready)
    (hlt : s.processedClaps.toNat < s.clapCount.toNat) (h126 : s.processedClaps = 126) :
    wholePoll s = .next { s with
      tmpC1 := s.clapCount, clapCount := 0, processedClaps := 0, events := s.events ++ [.overflow]
      hp := .ready } := by
  refine HSteps.wholePoll_eq (n := 1) ?_ hrun hr rfl (by decide)
  rw [pRead1_of_lt (BitVec.lt_def.mpr hlt)]
  exact .cons (exec_hstep_pInprog_of_eq rfl h126) (.refl _)

theorem wholePoll_of_noClaps (hrun : CanRun s) (hr : s.hp = .ready) (h0 : s.clapCount = 0) :
    wholePoll s = .next { s with
      tmpC1 := s.clapCount, tmpC2 := 0, events := s.events ++ [.noEvent], hp := .ready } := by
  refine HSteps.wholePoll_eq (n := 1) ?_ hrun hr rfl (by decide)
  rw [pRead1_of_not_lt (by rw [h0]; exact BitVec.not_lt_zero)]
  exact .cons (exec_hstep_pRead2_of_eq rfl h0) (.refl _)

/-- A reported series goes through the timeout check (42_reducer R191, R192, R197–R200). -/
theorem wholePoll_of_pCmp {n : Nat} {t : State} (hrun : CanRun s) (hr : s.hp = .ready)
    (heq : s.clapCount = s.processedClaps) (h0 : s.clapCount ≠ 0)
    (h : HSteps n { s with
      tmpC1 := s.clapCount, tmpC2 := s.clapCount, tmpG := s.gie, tmpT := s.lastClap, tmpNow := s.envMs
      hp := .pCmp } t) (ht : t.hp = .ready) (hn : n ≤ 6) : wholePoll s = .next t := by
  refine HSteps.wholePoll_eq (n := n + 5) ?_ hrun hr ht (by omega)
  rw [pRead1_of_not_lt (by rw [heq]; exact BitVec.lt_irrefl _)]
  exact .cons (exec_hstep_pRead2_of_ne rfl h0) (.of_pCsEnter rfl h)

/-- With nothing unreported and no timeout a whole poll appends NoEvent (42_reducer R209). -/
theorem exists_wholePoll_noEvent (hrun : CanRun s) (hr : s.hp = .ready) (heq : s.clapCount = s.processedClaps)
    (hout : ¬ timedOut s.cfg s.lastClap s.envMs) :
    ∃ t, wholePoll s = .next t ∧ clearTemps t = clearTemps { s with events := s.events ++ [.noEvent] } := by
  by_cases h0 : s.clapCount = 0
  · refine ⟨_, wholePoll_of_noClaps hrun hr h0, ?_⟩
    simp only [clearTemps, hr]
  · refine ⟨_, wholePoll_of_pCmp hrun hr heq h0 (hsteps_pCmp_of_not_timedOut rfl hout) rfl (by decide), ?_⟩
    simp only [clearTemps, hr]

/-- A reported series that has timed out is finished with its count (42_reducer R214). -/
theorem exists_wholePoll_seriesFinished (hrun : CanRun s) (hr : s.hp = .ready)
    (heq : s.clapCount = s.processedClaps) (h0 : s.clapCount ≠ 0) (hout : timedOut s.cfg s.lastClap s.envMs) :
    ∃ t, wholePoll s = .next t ∧ clearTemps t = clearTemps { s with
      clapCount := 0, processedClaps := 0, events := s.events ++ [.seriesFinished s.clapCount] } := by
  obtain ⟨n, r, hn, hfinish⟩ := exists_hsteps_pSnap (s := { s with
    tmpC1 := s.clapCount, tmpC2 := s.clapCount, tmpG := s.gie, tmpT := s.lastClap, tmpNow := s.envMs
    hp := .pSnap }) rfl
  refine ⟨_, wholePoll_of_pCmp hrun hr heq h0 (.cons (exec_hstep_pCmp_of_timedOut rfl hout) hfinish) rfl
    (by omega), ?_⟩
  simp only [clearTemps, hr, heq, sub_self]

end WholePolls

/-- Settles O51: the whole polls with a clap unreported. -/
theorem wholePollReportsNextClap : Obligations.WholePollReportsNextClap := by
  intro s hc hu hr hlt
  have hrun : CanRun s := ⟨hc, hu⟩
  refine ⟨fun h126 => ⟨_, wholePoll_seriesInProgress hrun hr hlt h126, ?_⟩,
    fun h126 => ⟨_, wholePoll_overflow hrun hr hlt h126, ?_⟩⟩
  · simp only [clearTemps, hr]
  · simp only [clearTemps, hr]

/-- Settles O50: the state after the poll differs from the one before in its temporaries and its trace, so the next
poll is of the same kind. -/
theorem wholePollIsIdempotent : Obligations.WholePollIsIdempotent := by
  intro s hc hu hr heq hout
  obtain ⟨t, ht, htemps⟩ := exists_wholePoll_noEvent ⟨hc, hu⟩ hr heq hout
  refine ⟨t, ht, htemps, ?_⟩
  obtain ⟨x, rfl⟩ : ∃ x, t = withTemps x { s with events := s.events ++ [.noEvent] } :=
    ⟨t, eq_withTemps htemps.symm⟩
  obtain ⟨u, hu', htemps'⟩ := exists_wholePoll_noEvent
    (s := withTemps x { s with events := s.events ++ [.noEvent] }) ⟨hc, hu⟩ hr heq hout
  refine ⟨u, hu', htemps'.trans ?_⟩
  simp only [withTemps, clearTemps, List.append_assoc, List.cons_append, List.nil_append]

/-- Settles O52: the finish leaves no clap, so the next poll ends at its second read. -/
theorem wholePollFinishesSeries : Obligations.WholePollFinishesSeries := by
  intro s hc hu hr heq h0 hout
  obtain ⟨t, ht, htemps⟩ := exists_wholePoll_seriesFinished ⟨hc, hu⟩ hr heq h0 hout
  refine ⟨t, ht, htemps, ?_⟩
  obtain ⟨x, rfl⟩ : ∃ x, t = withTemps x { s with
      clapCount := 0, processedClaps := 0, events := s.events ++ [.seriesFinished s.clapCount] } :=
    ⟨t, eq_withTemps htemps.symm⟩
  exact ⟨_, wholePoll_of_noClaps ⟨hc, hu⟩ hr rfl, by simp [withTemps]⟩

/-! ## The interrupt inside a finishing poll (42_reducer R212) -/

/-- The state after the interrupt has counted a clap below the saturation (41_tracker R155–R157). -/
def afterClap (s : State) : State :=
  { s with
    adcsra := s.adcsra &&& 0xEF, clapCount := s.clapCount + 1, lastClap := s.envMs
    runningMax := s.cfg.debBaseByte, countdown := s.cfg.debCdByte }

theorem ClapPending.exec_isr {s : State} (h : ClapPending s) : exec .isr s = .next (afterClap s) := by
  obtain ⟨hadif, hadie, hgie⟩ := h.enabled
  rw [exec_isr_of_pending hadif hadie hgie, afterIsr, h.trackerStep_eq, detectClap_eq, if_pos h.unsaturated, afterClap]

/-- The clap is counted, and the poll goes on from there. -/
theorem ClapPending.clapThenSteps_eq {n : Nat} {s t : State} (h : ClapPending s) (hrun : CanRun s)
    (hsteps : HSteps n (afterClap s) t) : clapThenSteps n s = .next t := by
  rw [clapThenSteps, perform_encode_cons hrun h.exec_isr]
  exact hsteps.perform_eq (hrun.exec h.exec_isr)

section Race
variable {s : State}

/-- With the clap counted the count is above the processed claps. -/
theorem ClapPending.processed_lt_succ (h : ClapPending s) (hle : s.processedClaps.toNat ≤ s.clapCount.toNat) :
    s.processedClaps.toNat < (s.clapCount + 1).toNat := by
  have hbelow := h.unsaturated
  bv_omega

/-- The clap is counted before the timeout check reads the clock and `last_clap`: it refreshes the series. -/
theorem ClapPending.refreshes (h : ClapPending s) (hrun : CanRun s) (hp : s.hp = .pCsEnter) :
    clapThenSteps 5 s = .next { afterClap s with
      tmpG := s.gie, tmpT := s.envMs, tmpNow := s.envMs, events := s.events ++ [.noEvent], hp := .ready } := by
  have hfresh : ¬ timedOut s.cfg s.envMs s.envMs := by simp [timedOut]
  exact h.clapThenSteps_eq hrun (.of_pCsEnter hp (hsteps_pCmp_of_not_timedOut rfl hfresh))

/-- From P_NOW on, with the series timed out, the poll runs into P_SNAP with the clap counted. -/
theorem hsteps_of_late_clap {n : Nat} (hat : s.cfg.atomicFinish = false)
    (h : (s.hp = .pNow ∧ timedOut s.cfg s.tmpT s.envMs ∧ n = 6) ∨
      (s.hp = .pCmp ∧ timedOut s.cfg s.tmpT s.tmpNow ∧ n = 5) ∨ (s.hp = .pSnap ∧ n = 4)) :
    ∃ now, HSteps n s { s with
      tmpNow := now, tmpS := s.clapCount, tmpR := s.clapCount, clapCount := s.clapCount - s.processedClaps
      processedClaps := 0, events := s.events ++ [.seriesFinished s.clapCount], hp := .ready } := by
  obtain ⟨hp, hout, rfl⟩ | ⟨hp, hout, rfl⟩ | ⟨hp, rfl⟩ := h
  · exact ⟨s.envMs,
      .cons (exec_hstep_pNow hp) (.cons (exec_hstep_pCmp_of_timedOut rfl hout) (hsteps_pSnap rfl hat))⟩
  · exact ⟨s.tmpNow, .cons (exec_hstep_pCmp_of_timedOut hp hout) (hsteps_pSnap rfl hat)⟩
  · exact ⟨s.tmpNow, hsteps_pSnap hp hat⟩

/-- After a finish that left the clap in the count, the next series starts with it. -/
theorem wholePoll_starts_series (hrun : CanRun s) (hr : s.hp = .ready) (h0 : s.processedClaps = 0)
    (hpos : 0 < s.clapCount.toNat) :
    ∃ v, wholePoll s = .next v ∧ v.events = s.events ++ [.seriesInProgress 1] := by
  have hlt : s.processedClaps.toNat < s.clapCount.toNat := by rw [h0]; exact hpos
  refine ⟨_, wholePoll_seriesInProgress hrun hr hlt (by rw [h0]; decide), ?_⟩
  simp only [h0]
  rfl

/-- The finish takes away the processed claps, and not the one counted inside it. -/
theorem ClapPending.sub_processed_pos (h : ClapPending s) (hle : s.processedClaps.toNat ≤ s.clapCount.toNat) :
    0 < (s.clapCount + 1 - s.processedClaps).toNat := by
  have hlt := h.processed_lt_succ hle
  rw [BitVec.toNat_sub_of_le (BitVec.le_def.mpr hlt.le)]
  omega

end Race

/-- Settles O53: the clap is counted at the phase, the rest of the poll runs from there, and the next poll reads the
count that it leaves. -/
theorem finishRaceOutcomes : Obligations.FinishRaceOutcomes := by
  intro s hc hu hat h
  have hrun : CanRun s := ⟨hc, hu⟩
  refine ⟨⟨_, h.exec_isr, rfl, rfl, rfl⟩, fun hp => ?enter, fun n hlate => ?late, fun hp => ?read, fun hp => ?write⟩
  case enter =>
    refine ⟨_, h.refreshes hrun hp, rfl, rfl, rfl, fun hle => ?_⟩
    have hlt := h.processed_lt_succ hle
    by_cases h126 : s.processedClaps = 126
    · rw [if_pos h126]
      exact ⟨_, wholePoll_overflow hrun rfl hlt h126, rfl⟩
    · rw [if_neg h126]
      exact ⟨_, wholePoll_seriesInProgress hrun rfl hlt h126, rfl⟩
  case late =>
    obtain ⟨now, hsteps⟩ := hsteps_of_late_clap (s := afterClap s) hat hlate
    exact ⟨_, h.clapThenSteps_eq hrun hsteps, rfl, rfl, rfl,
      fun hle => wholePoll_starts_series hrun rfl rfl (h.sub_processed_pos hle)⟩
  case read =>
    exact ⟨_, h.clapThenSteps_eq hrun (hsteps_pRmwRead hp), rfl, rfl, rfl,
      fun hle => wholePoll_starts_series hrun rfl rfl (h.sub_processed_pos hle)⟩
  case write =>
    refine ⟨_, h.clapThenSteps_eq hrun (hsteps_pRmwWrite hp), rfl, rfl, rfl, rfl, fun heq => ?_⟩
    have hnone : s.tmpR - s.processedClaps = 0 := by rw [heq, sub_self]
    exact ⟨_, wholePoll_of_noClaps hrun rfl hnone, rfl⟩

end Sys2Proof.Machine

/-! PROOFS of the family 60_exceptions: when the interrupt is taken, and the host word that unmasks it. -/

namespace Sys2Proof.Machine

/-! ## The enabling condition of the interrupt (60_exceptions R231) -/

theorem exec_isr_next_iff {s : State} :
    (∃ t, exec .isr s = .next t) ↔ s.adif = true ∧ s.adie = true ∧ s.gie = true := by
  constructor
  · rintro ⟨t, ht⟩
    obtain ⟨hadif, hadie, hgie, -⟩ := execIsr_next ht
    exact ⟨hadif, hadie, hgie⟩
  · rintro ⟨hadif, hadie, hgie⟩
    exact ⟨_, exec_isr_of_pending hadif hadie hgie⟩

/-- Settles O25: the interrupt answers exactly under its enabling condition, and has no fault of its own. -/
theorem isrTakenExactlyWhenEnabled : Obligations.IsrTakenExactlyWhenEnabled :=
  ⟨decode_encode .isr, fun _ => ⟨exec_isr_next_iff, exec_isr_refused⟩⟩

/-! ## SEI (60_exceptions R240) -/

/-- Settles O38: `SEI` writes the one conjunct of the interrupt's enabling condition that a pending and enabled
interrupt can still lack, and the other two do not read `gie`. -/
theorem seiUnmasksInterrupt : Obligations.SeiUnmasksInterrupt := by
  refine ⟨decode_encode .sei, fun s => ⟨fun hp => exec_refused_of_polling hp (by simp), exec_sei_of_ready,
    fun hr hadif hadie => ?_⟩⟩
  have hpending : ∃ u, exec .isr { s with gie := true } = .next u := exec_isr_next_iff.mpr ⟨hadif, hadie, rfl⟩
  obtain ⟨u, hu⟩ := hpending
  exact ⟨_, u, exec_sei_of_ready hr, hu⟩

end Sys2Proof.Machine
